-- ==== Sys2Proof/Word.lean ====
section
/-! DEFINITION. The two word sizes of the machine (00_scope.md R9, R11): a byte is 8 bits, a word 16 bits, bit 0 the
least significant. -/

namespace Sys2Proof

/-- 8 bits: a register, a memory byte, an opcode byte (R9). -/
abbrev Byte := BitVec 8

/-- 16 bits: an address, a register pair, SP, PC (R9). -/
abbrev Word := BitVec 16

end Sys2Proof
end

