-- ==== Sys2Proof/WellFormed.lean ====
section
/-! DEFINITION. Which terms of `Instr` are instructions. Every operand value is encodable (R307-R309), so the one check is
that the term is not the bare prefix: "0xCB alone is not an instruction; it selects the `CB op` format" (R301). -/

namespace Sys2Proof

/-- The term is an instruction of the maps of R314 and R315, illegal base values included. -/
def Instr.wellFormed : Instr → Bool
  | .cb_prefix => false
  | .nop | .ld_BC_n16 _ | .ld_mBC_A | .inc_BC | .inc_B | .dec_B | .ld_B_n8 _ | .rlca | .ld_mN16_SP _
  | .add_HL_BC | .ld_A_mBC | .dec_BC | .inc_C | .dec_C | .ld_C_n8 _ | .rrca | .stop | .ld_DE_n16 _ | .ld_mDE_A
  | .inc_DE | .inc_D | .dec_D | .ld_D_n8 _ | .rla | .jr_e8 _ | .add_HL_DE | .ld_A_mDE | .dec_DE | .inc_E
  | .dec_E | .ld_E_n8 _ | .rra | .jr_NZ_e8 _ | .ld_HL_n16 _ | .ld_mHLinc_A | .inc_HL | .inc_H | .dec_H
  | .ld_H_n8 _ | .daa | .jr_Z_e8 _ | .add_HL_HL | .ld_A_mHLinc | .dec_HL | .inc_L | .dec_L | .ld_L_n8 _ | .cpl
  | .jr_NC_e8 _ | .ld_SP_n16 _ | .ld_mHLdec_A | .inc_SP | .inc_mHL | .dec_mHL | .ld_mHL_n8 _ | .scf
  | .jr_C_e8 _ | .add_HL_SP | .ld_A_mHLdec | .dec_SP | .inc_A | .dec_A | .ld_A_n8 _ | .ccf | .ld_B_B | .ld_B_C
  | .ld_B_D | .ld_B_E | .ld_B_H | .ld_B_L | .ld_B_mHL | .ld_B_A | .ld_C_B | .ld_C_C | .ld_C_D | .ld_C_E
  | .ld_C_H | .ld_C_L | .ld_C_mHL | .ld_C_A | .ld_D_B | .ld_D_C | .ld_D_D | .ld_D_E | .ld_D_H | .ld_D_L
  | .ld_D_mHL | .ld_D_A | .ld_E_B | .ld_E_C | .ld_E_D | .ld_E_E | .ld_E_H | .ld_E_L | .ld_E_mHL | .ld_E_A
  | .ld_H_B | .ld_H_C | .ld_H_D | .ld_H_E | .ld_H_H | .ld_H_L | .ld_H_mHL | .ld_H_A | .ld_L_B | .ld_L_C
  | .ld_L_D | .ld_L_E | .ld_L_H | .ld_L_L | .ld_L_mHL | .ld_L_A | .ld_mHL_B | .ld_mHL_C | .ld_mHL_D | .ld_mHL_E
  | .ld_mHL_H | .ld_mHL_L | .halt | .ld_mHL_A | .ld_A_B | .ld_A_C | .ld_A_D | .ld_A_E | .ld_A_H | .ld_A_L
  | .ld_A_mHL | .ld_A_A | .add_A_B | .add_A_C | .add_A_D | .add_A_E | .add_A_H | .add_A_L | .add_A_mHL
  | .add_A_A | .adc_A_B | .adc_A_C | .adc_A_D | .adc_A_E | .adc_A_H | .adc_A_L | .adc_A_mHL | .adc_A_A
  | .sub_A_B | .sub_A_C | .sub_A_D | .sub_A_E | .sub_A_H | .sub_A_L | .sub_A_mHL | .sub_A_A | .sbc_A_B
  | .sbc_A_C | .sbc_A_D | .sbc_A_E | .sbc_A_H | .sbc_A_L | .sbc_A_mHL | .sbc_A_A | .and_A_B | .and_A_C
  | .and_A_D | .and_A_E | .and_A_H | .and_A_L | .and_A_mHL | .and_A_A | .xor_A_B | .xor_A_C | .xor_A_D
  | .xor_A_E | .xor_A_H | .xor_A_L | .xor_A_mHL | .xor_A_A | .or_A_B | .or_A_C | .or_A_D | .or_A_E | .or_A_H
  | .or_A_L | .or_A_mHL | .or_A_A | .cp_A_B | .cp_A_C | .cp_A_D | .cp_A_E | .cp_A_H | .cp_A_L | .cp_A_mHL
  | .cp_A_A | .ret_NZ | .pop_BC | .jp_NZ_n16 _ | .jp_n16 _ | .call_NZ_n16 _ | .push_BC | .add_A_n8 _ | .rst_00
  | .ret_Z | .ret | .jp_Z_n16 _ | .call_Z_n16 _ | .call_n16 _ | .adc_A_n8 _ | .rst_08 | .ret_NC | .pop_DE
  | .jp_NC_n16 _ | .illegal_D3 | .call_NC_n16 _ | .push_DE | .sub_A_n8 _ | .rst_10 | .ret_C | .reti
  | .jp_C_n16 _ | .illegal_DB | .call_C_n16 _ | .illegal_DD | .sbc_A_n8 _ | .rst_18 | .ldh_mN8_A _ | .pop_HL
  | .ld_mC_A | .illegal_E3 | .illegal_E4 | .push_HL | .and_A_n8 _ | .rst_20 | .add_SP_e8 _ | .jp_HL
  | .ld_mN16_A _ | .illegal_EB | .illegal_EC | .illegal_ED | .xor_A_n8 _ | .rst_28 | .ldh_A_mN8 _ | .pop_AF
  | .ld_A_mC | .di | .illegal_F4 | .push_AF | .or_A_n8 _ | .rst_30 | .ld_HL_SPe8 _ | .ld_SP_HL | .ld_A_mN16 _
  | .ei | .illegal_FC | .illegal_FD | .cp_A_n8 _ | .rst_38 | .rlc_B | .rlc_C | .rlc_D | .rlc_E | .rlc_H
  | .rlc_L | .rlc_mHL | .rlc_A | .rrc_B | .rrc_C | .rrc_D | .rrc_E | .rrc_H | .rrc_L | .rrc_mHL | .rrc_A
  | .rl_B | .rl_C | .rl_D | .rl_E | .rl_H | .rl_L | .rl_mHL | .rl_A | .rr_B | .rr_C | .rr_D | .rr_E | .rr_H
  | .rr_L | .rr_mHL | .rr_A | .sla_B | .sla_C | .sla_D | .sla_E | .sla_H | .sla_L | .sla_mHL | .sla_A | .sra_B
  | .sra_C | .sra_D | .sra_E | .sra_H | .sra_L | .sra_mHL | .sra_A | .swap_B | .swap_C | .swap_D | .swap_E
  | .swap_H | .swap_L | .swap_mHL | .swap_A | .srl_B | .srl_C | .srl_D | .srl_E | .srl_H | .srl_L | .srl_mHL
  | .srl_A | .bit_0_B | .bit_0_C | .bit_0_D | .bit_0_E | .bit_0_H | .bit_0_L | .bit_0_mHL | .bit_0_A | .bit_1_B
  | .bit_1_C | .bit_1_D | .bit_1_E | .bit_1_H | .bit_1_L | .bit_1_mHL | .bit_1_A | .bit_2_B | .bit_2_C
  | .bit_2_D | .bit_2_E | .bit_2_H | .bit_2_L | .bit_2_mHL | .bit_2_A | .bit_3_B | .bit_3_C | .bit_3_D
  | .bit_3_E | .bit_3_H | .bit_3_L | .bit_3_mHL | .bit_3_A | .bit_4_B | .bit_4_C | .bit_4_D | .bit_4_E
  | .bit_4_H | .bit_4_L | .bit_4_mHL | .bit_4_A | .bit_5_B | .bit_5_C | .bit_5_D | .bit_5_E | .bit_5_H
  | .bit_5_L | .bit_5_mHL | .bit_5_A | .bit_6_B | .bit_6_C | .bit_6_D | .bit_6_E | .bit_6_H | .bit_6_L
  | .bit_6_mHL | .bit_6_A | .bit_7_B | .bit_7_C | .bit_7_D | .bit_7_E | .bit_7_H | .bit_7_L | .bit_7_mHL
  | .bit_7_A | .res_0_B | .res_0_C | .res_0_D | .res_0_E | .res_0_H | .res_0_L | .res_0_mHL | .res_0_A
  | .res_1_B | .res_1_C | .res_1_D | .res_1_E | .res_1_H | .res_1_L | .res_1_mHL | .res_1_A | .res_2_B
  | .res_2_C | .res_2_D | .res_2_E | .res_2_H | .res_2_L | .res_2_mHL | .res_2_A | .res_3_B | .res_3_C
  | .res_3_D | .res_3_E | .res_3_H | .res_3_L | .res_3_mHL | .res_3_A | .res_4_B | .res_4_C | .res_4_D
  | .res_4_E | .res_4_H | .res_4_L | .res_4_mHL | .res_4_A | .res_5_B | .res_5_C | .res_5_D | .res_5_E
  | .res_5_H | .res_5_L | .res_5_mHL | .res_5_A | .res_6_B | .res_6_C | .res_6_D | .res_6_E | .res_6_H
  | .res_6_L | .res_6_mHL | .res_6_A | .res_7_B | .res_7_C | .res_7_D | .res_7_E | .res_7_H | .res_7_L
  | .res_7_mHL | .res_7_A | .set_0_B | .set_0_C | .set_0_D | .set_0_E | .set_0_H | .set_0_L | .set_0_mHL
  | .set_0_A | .set_1_B | .set_1_C | .set_1_D | .set_1_E | .set_1_H | .set_1_L | .set_1_mHL | .set_1_A
  | .set_2_B | .set_2_C | .set_2_D | .set_2_E | .set_2_H | .set_2_L | .set_2_mHL | .set_2_A | .set_3_B
  | .set_3_C | .set_3_D | .set_3_E | .set_3_H | .set_3_L | .set_3_mHL | .set_3_A | .set_4_B | .set_4_C
  | .set_4_D | .set_4_E | .set_4_H | .set_4_L | .set_4_mHL | .set_4_A | .set_5_B | .set_5_C | .set_5_D
  | .set_5_E | .set_5_H | .set_5_L | .set_5_mHL | .set_5_A | .set_6_B | .set_6_C | .set_6_D | .set_6_E
  | .set_6_H | .set_6_L | .set_6_mHL | .set_6_A | .set_7_B | .set_7_C | .set_7_D | .set_7_E | .set_7_H
  | .set_7_L | .set_7_mHL | .set_7_A => true

end Sys2Proof
end

