-- ==== Sys2Proof/Config.lean ====
section
/-! DEFINITION. What is fixed for the life of a run: the parameters of 00_scope.md R10 that are not memory images, with
the defaults R10 gives them, and the two free values of the model. The images (CART, SAVE_RAM, BOOT_ROM, INITIAL_RAM) are
arguments of the load (Machine/Load.lean). A value of `Config` stands in State, so a claim about every state is a claim
about every choice of the parameters. -/

namespace Sys2Proof

/-- "Color: an RGB triple" of three 8-bit channels (60_exceptions.md R657). -/
structure Rgb where
  r : Byte
  g : Byte
  b : Byte
  deriving DecidableEq, Repr

/-- The four shades of DMG mode, `DMG_SHADES` (R10, 92_eei_decisions.md D33). -/
structure Shades where
  s0 : Rgb
  s1 : Rgb
  s2 : Rgb
  s3 : Rgb
  deriving DecidableEq, Repr

/-- `STOP_LENGTH` in {1, 2} (R10, D10): does STOP consume one more byte. -/
inductive StopLength where
  | one
  | two
  deriving DecidableEq, Repr

/-- The parameters of R10 that a step reads. -/
structure Config where
  /-- `DMG_SHADES` (D33). -/
  dmgShades : Shades
  /-- `UNUSABLE_READ_VALUE` (D16). -/
  unusableRead : Byte
  /-- `BLOCKED_READ_VALUE` (D17). -/
  blockedRead : Byte
  /-- `STOP_LENGTH` (D10). -/
  stopLength : StopLength
  /-- `MBC3_ZERO_IS_ONE` (D46). -/
  mbc3ZeroIsOne : Bool
  /-- `BREAKPOINTS`, the debugger's set of addresses (60_exceptions.md R715). -/
  breakpoints : List Word
  deriving DecidableEq, Repr

/-- The default of every parameter (R10). -/
def Config.default : Config where
  dmgShades := ⟨⟨255, 255, 255⟩, ⟨192, 192, 192⟩, ⟨96, 96, 96⟩, ⟨0, 0, 0⟩⟩
  unusableRead := 0xFF
  blockedRead := 0xFF
  stopLength := .two
  mbc3ZeroIsOne := true
  breakpoints := []

/-- FREE VALUE (assumption 12): the colour index of an 8-row sprite's pixel whose row falls outside the tile, because OAM or
LCDC.2 changed between the OAM search that listed the sprite and the pixel transfer that draws it; R652 defines a tile's
rows 0 to 7 only. The arguments are the number of rows composed before, the OAM index and the column. -/
opaque Config.freeSpritePixel : Nat → Nat → Nat → BitVec 2

/-- FREE VALUE (assumption 17): the byte of a window map entry outside the 8 KiB of its VRAM bank, which a window line
counter of 256 or more reaches (R654; the counter outlives a switch of the LCD, R650). The arguments are the number of rows
composed before, the bank, the offset and the column in the map. -/
opaque Config.freeMapByte : Nat → Nat → Nat → Nat → Byte

end Sys2Proof
end

