-- ==== Sys2Proof/Machine/State.lean ====
section
/-! DEFINITION. The state of the machine as plain data (10_state.md), the reasons a step can stop, and the state after
power-on with a boot ROM (70_reset_and_hazards.md R800). -/

namespace Sys2Proof.Machine

/-- A storage array: pairs (index, byte), indices strictly rising, no entry equal to 0x00, which is what an index that is
not listed holds (R800: every storage array starts at 0x00; for the two ROM images that is assumption 3). -/
abbrev Memory := List Host.Cell

/-! ## Names -/

/-- The 8-bit registers an instruction names (R100, R303); F is written only through its flags and POP AF (R102). -/
inductive Reg8 where
  | a | b | c | d | e | h | l
  deriving DecidableEq, Repr

/-- The eight buttons (60_exceptions.md R690). -/
inductive Button where
  | start | select | b | a | down | up | left | right
  deriving DecidableEq, Repr

/-- A key event of the host (R711). -/
inductive KeyEvent where
  | press (button : Button)
  | release (button : Button)
  deriving DecidableEq, Repr

/-- One thing the debugger does while it holds the machine (R715): a write of a register, or of memory through the MMU. -/
inductive DebugAction where
  | setReg8 (r : Reg8) (v : Byte)
  | setF (v : Byte)
  | setSP (v : Word)
  | setPC (v : Word)
  | store (a : Word) (v : Byte)
  deriving DecidableEq, Repr

/-- What the machine tells the host (R710, R712). -/
inductive HostOutput where
  /-- `update_line_from_buffer(row, line)`: a composed row of 160 colours. -/
  | line (row : List Rgb) (ly : Byte)
  /-- `render_frame()`. -/
  | frame
  /-- The cartridge metadata printed when boot mode ends: the title bytes CART[0x134..0x142]. -/
  | title (bytes : List Byte)
  deriving DecidableEq, Repr

/-- The modes of the video controller (R640). -/
inductive LcdMode where
  /-- mode 0 -/
  | hblank
  /-- mode 1 -/
  | vblank
  /-- mode 2 -/
  | oamSearch
  /-- mode 3 -/
  | transfer
  deriving DecidableEq, Repr

/-- The cartridge controller variants (20_memory.md R241). -/
inductive Variant where
  | noBank | variantA | variantB | variantC
  deriving DecidableEq, Repr

/-- The fatal conditions with their diagnostics (60_exceptions.md R600). An instruction or a debugger write that raises
one ends in a NEXT state whose `fault` records it (R601); a step from such a state answers `.fault`. The load answers
`.fault` for the load-time ones. Each is SAFE: the spec stops the machine there. -/
inductive Fault where
  /-- F1: the eleven undefined base opcodes (R576), raised by the meanings of the ILLEGAL rows. -/
  | f1UndefinedOpcode (opcode : Byte) (address : Word)
  /-- F2: an undefined CB opcode. Nothing raises it: every CB value is defined (R317). -/
  | f2UndefinedCbOpcode
  /-- F3: unsupported controller type in CART[0x147] (R241), raised by the load. -/
  | f3ControllerType (type : Byte)
  /-- F4: bank counts beyond the variant's range (R246), raised by the load. -/
  | f4BankCount (variant : Variant) (nRom nRam : Nat)
  /-- F5: a write of HDMA5 with bit 7 = 1 in CGB mode (R675), raised by any store of an instruction, by the push of an
  interrupt dispatch and by a debugger store. -/
  | f5HblankDma (value : Byte)
  /-- F6: STOP in DMG mode (R572). -/
  | f6StopOnDmg (address : Word)
  /-- F7: unknown ROM or RAM size code (R242, R243), raised by the load. -/
  | f7SizeCode (code : Byte)
  /-- F8: image shorter than 0x150 bytes, or length not N_rom * 0x4000 (R240, R244), raised by the load. -/
  | f8ImageLength (length : Nat)
  deriving DecidableEq, Repr

/-- Reasons why a step has no meaning. -/
inductive Refusal where
  /-- An instruction not modelled yet, raised by `exec`'s arms only; no arm does. -/
  | notModelled (mnemonic : String)
  deriving DecidableEq, Repr

/-! ## The parts of the state -/

/-- The eight 8-bit registers (R100); the pairs are views of them (R101). -/
structure Regs where
  a : Byte
  f : Byte
  b : Byte
  c : Byte
  d : Byte
  e : Byte
  h : Byte
  l : Byte
  deriving DecidableEq, Repr

/-- The selector state of the MemoryBank, per variant (R150). -/
inductive Mapper where
  | noBank
  | variantA (ramEnable : Bool) (low5 : BitVec 5) (ext2 : BitVec 2) (mode1 : Bool)
  | variantB (ramEnable : Bool) (rom7 : BitVec 7) (ram4 : BitVec 4)
  | variantC (ramEnable : Bool) (romLo8 : Byte) (romHi1 : BitVec 1) (ram4 : BitVec 4)
  deriving DecidableEq, Repr

/-- The MemoryBank: the cartridge's image and RAM banks, the counts fixed at load (R257), and the selectors. External RAM
bank k, offset o stands at index `k * sRam + o`. -/
structure Cartridge where
  rom : Memory
  ram : Memory
  nRom : Nat
  nRam : Nat
  sRam : Nat
  mapper : Mapper
  deriving DecidableEq, Repr

/-- The joypad: the select bits of P1 (R114: bit 1 is P1.5, bit 0 is P1.4), the latch (R152, true = pressed) and the
pending request (R149). -/
structure Joypad where
  sel : BitVec 2
  start : Bool
  select : Bool
  b : Bool
  a : Bool
  down : Bool
  up : Bool
  left : Bool
  right : Bool
  pending : Bool
  deriving DecidableEq, Repr

/-- The timer: DIV, TIMA, TMA, TAC[2:0] (R115-R118), its accumulators (R146) and its pending request (R149). -/
structure Timer where
  div : Byte
  tima : Byte
  tma : Byte
  tac : BitVec 3
  divAcc : Nat
  timaAcc : Nat
  pending : Bool
  deriving DecidableEq, Repr

/-- The video controller: its registers (R119-R123, R125, R126, R128, R132), its memories (R140-R142), its hidden state
(R145) and its pending requests (R149). `statEnable` is STAT[6:3]. VRAM bank b, offset o stands at index
`b * 0x2000 + o`. `rowsComposed` is the model's own: it numbers the draws of the free values of assumptions 12 and 17. -/
structure Video where
  lcdc : Byte
  statEnable : BitVec 4
  coincidence : Bool
  mode : LcdMode
  scy : Byte
  scx : Byte
  ly : Byte
  lyc : Byte
  bgp : Byte
  obp0 : Byte
  obp1 : Byte
  wy : Byte
  wx : Byte
  vbk : BitVec 1
  bcps : Byte
  ocps : Byte
  lineCycles : Nat
  windowStarted : Bool
  windowLine : Nat
  sprites : List Nat
  frameComplete : Bool
  pendingVblank : Bool
  pendingStat : Bool
  vram : Memory
  oam : Memory
  bgPram : Memory
  obPram : Memory
  rowsComposed : Nat
  deriving DecidableEq, Repr

/-- OAM DMA: the DMA register (R124) and the transfer (R147). -/
structure OamDma where
  reg : Byte
  active : Bool
  srcPage : Byte
  cursor : Nat
  acc : Nat
  deriving DecidableEq, Repr

/-- General-purpose VRAM DMA: HDMA1-HDMA4 (R130) and the transfer (R148). -/
structure Hdma where
  hdma1 : Byte
  hdma2 : Byte
  hdma3 : Byte
  hdma4 : Byte
  armed : Bool
  src : Word
  dst : BitVec 13
  len : Nat
  deriving DecidableEq, Repr

/-- The memory-mapping unit and what it owns (R5): everything but the CPU. `cgb` is the mode of R4, `io` the flat I/O
array (R135; BOOT's stored byte is its entry 0x50), `intFlag` IF[4:0] (R113), `intEnable` IE (R136). WRAM bank k, offset
o stands at index `k * 0x1000 + o`. `outputs` are the calls made to the host so far, oldest first (R710, R712). -/
structure Mmu where
  cgb : Bool
  bootMode : Bool
  bootRom : Memory
  cart : Cartridge
  wram : Memory
  hram : Memory
  io : Memory
  intFlag : BitVec 5
  intEnable : Byte
  joypad : Joypad
  timer : Timer
  video : Video
  oamDma : OamDma
  hdma : Hdma
  doubleSpeed : Bool
  key1Armed : Bool
  svbk : BitVec 3
  outputs : List HostOutput
  deriving DecidableEq, Repr

/-- The whole machine. `cost` is the model's own field: the cycle count the latest unit of `step_cycles` returned (R612).
`keyEvents` is the environment's choice at the coming step boundaries (R711), one list for each; `debugger` its choice at
the coming breakpoint hits (R715), one list for each. -/
structure State where
  regs : Regs
  sp : Word
  pc : Word
  ime : Bool
  imePending : Bool
  halted : Bool
  fault : Option Fault
  mmu : Mmu
  config : Config
  keyEvents : List (List KeyEvent)
  debugger : List (List DebugAction)
  cost : Nat
  deriving DecidableEq, Repr

/-! ## Power-on -/

/-- Every 8-bit register 0x00 (R800). -/
def Regs.zero : Regs := ⟨0, 0, 0, 0, 0, 0, 0, 0⟩

/-- No button pressed, both groups selected (R800). -/
def Joypad.reset : Joypad where
  sel := 0
  start := false
  select := false
  b := false
  a := false
  down := false
  up := false
  left := false
  right := false
  pending := false

/-- The timer at power-on (R800). -/
def Timer.reset : Timer := ⟨0, 0, 0, 0, 0, 0, false⟩

/-- The video controller at power-on: LCD off, mode 0, memories all zero (R800). -/
def Video.reset : Video where
  lcdc := 0
  statEnable := 0
  coincidence := false
  mode := .hblank
  scy := 0
  scx := 0
  ly := 0
  lyc := 0
  bgp := 0
  obp0 := 0
  obp1 := 0
  wy := 0
  wx := 0
  vbk := 0
  bcps := 0
  ocps := 0
  lineCycles := 0
  windowStarted := false
  windowLine := 0
  sprites := []
  frameComplete := false
  pendingVblank := false
  pendingStat := false
  vram := []
  oam := []
  bgPram := []
  obPram := []
  rowsComposed := 0

/-- No OAM DMA (R800). -/
def OamDma.reset : OamDma := ⟨0, false, 0, 0, 0⟩

/-- No VRAM DMA (R800). -/
def Hdma.reset : Hdma := ⟨0, 0, 0, 0, false, 0, 0, 0⟩

/-- The cartridge of an image of 0x8000 zero bytes: type 0x00, size codes 0x00, hence no-bank, N_rom = 2 and 8 KiB of RAM
(R241-R243, R247; assumption 3). -/
def Cartridge.blank : Cartridge := ⟨[], [], 2, 1, 0x2000, .noBank⟩

/-- The MMU at power-on with a boot ROM and a blank DMG cartridge (R800). -/
def Mmu.reset : Mmu where
  cgb := false
  bootMode := true
  bootRom := []
  cart := Cartridge.blank
  wram := []
  hram := []
  io := []
  intFlag := 0
  intEnable := 0
  joypad := Joypad.reset
  timer := Timer.reset
  video := Video.reset
  oamDma := OamDma.reset
  hdma := Hdma.reset
  doubleSpeed := false
  key1Armed := false
  svbk := 0
  outputs := []

/-- The machine right after power-on with a boot ROM (R800), the images listing nothing (assumption 3) and the parameters
at their defaults (R10). -/
def State.reset : State where
  regs := Regs.zero
  sp := 0
  pc := 0
  ime := false
  imePending := false
  halted := false
  fault := none
  mmu := Mmu.reset
  config := Config.default
  keyEvents := []
  debugger := []
  cost := 0

end Sys2Proof.Machine
end

