-- ==== Sys2Proof/Machine/Memory.lean ====
section
/-! DEFINITION. Storage arrays as canonical lists: reading, writing, and the canonical form. An index that is not listed
reads 0x00 (R800, D20; for ROM images assumption 3). -/

namespace Sys2Proof.Machine

/-- What an index that is not listed reads as. -/
def Memory.unlisted : Byte := 0

/-- The byte at index k. -/
def Memory.read : Memory → Nat → Byte
  | [], _ => Memory.unlisted
  | (i, v) :: t, k => if k = i then v else Memory.read t k

/-- Put v at index k, keeping the indices rising; used for v other than the unlisted value. -/
def Memory.insert : Memory → Nat → Byte → Memory
  | [], k, v => [(k, v)]
  | (i, w) :: t, k, v =>
    if k < i then (k, v) :: (i, w) :: t
    else if k = i then (k, v) :: t
    else (i, w) :: Memory.insert t k v

/-- Remove the entries at index k. -/
def Memory.erase (m : Memory) (k : Nat) : Memory := m.filter fun c => c.1 != k

/-- Store v at index k: writing the unlisted value removes the entry, so equal memories are equal lists. -/
def Memory.write (m : Memory) (k : Nat) (v : Byte) : Memory :=
  if v = Memory.unlisted then Memory.erase m k else Memory.insert m k v

/-- Keep the entries below n. -/
def Memory.below (m : Memory) (n : Nat) : Memory := m.filter fun c => decide (c.1 < n)

/-- The entries' indices rise strictly, starting above or at lo, and no entry holds the unlisted value. -/
def Memory.wfFrom : Nat → Memory → Bool
  | _, [] => true
  | lo, (i, v) :: t => decide (lo ≤ i) && (v != Memory.unlisted) && Memory.wfFrom (i + 1) t

/-- The canonical form. -/
def Memory.wf (m : Memory) : Bool := Memory.wfFrom 0 m

/-- Every entry's index is below n. -/
def Memory.within (m : Memory) (n : Nat) : Bool := m.all fun c => decide (c.1 < n)

/-- `count` copies of the byte v at the indices from `start` on, canonical when v is not the unlisted value. -/
def Memory.fill (start : Nat) (v : Byte) : Nat → Memory
  | 0 => []
  | n + 1 => (start, v) :: Memory.fill (start + 1) v n

end Sys2Proof.Machine
end

