-- ==== Sys2Proof/Machine/Cart.lean ====
section
/-! DEFINITION. The cartridge bank controllers: `read_rom`, `write_rom`, `read_ram`, `write_ram` of the MemoryBank
(20_memory.md R247-R258). No access can fail (R256). -/

namespace Sys2Proof.Machine

/-- The ROM bank the window 0x4000-0x7FFF shows, before the reduction modulo N_rom (R249, R252, R254). -/
def Mapper.romBank : Mapper → Nat
  | .noBank => 1
  | .variantA _ low5 ext2 mode1 => bif mode1 then low5.toNat else ext2.toNat * 32 + low5.toNat
  | .variantB _ rom7 _ => rom7.toNat
  | .variantC _ romLo8 romHi1 _ => romHi1.toNat * 256 + romLo8.toNat

/-- The RAM bank selected, before the reduction modulo N_ram (R250, R252, R254). -/
def Mapper.ramBank : Mapper → Nat
  | .noBank => 0
  | .variantA _ _ ext2 mode1 => bif mode1 then ext2.toNat else 0
  | .variantB _ _ ram4 => ram4.toNat
  | .variantC _ _ _ ram4 => ram4.toNat

/-- The RAM-enable latch; no-bank RAM is always enabled (R247, D48). -/
def Mapper.ramEnabled : Mapper → Bool
  | .noBank => true
  | .variantA en _ _ _ => en
  | .variantB en _ _ => en
  | .variantC en _ _ _ => en

/-- The index in CART that address n < 0x8000 shows: no-bank maps the image as it is (R247); otherwise bank 0 is fixed
below 0x4000 and every bank number is reduced modulo N_rom (R255). -/
def Cartridge.romIndex (c : Cartridge) (n : Nat) : Nat :=
  match c.mapper with
  | .noBank => n
  | m => if n < 0x4000 then n else m.romBank % c.nRom * 0x4000 + (n - 0x4000)

/-- The index in the RAM banks that offset o of 0xA000-0xBFFF shows, or none when the RAM is disabled or absent
(R247, R250, R252, R254, D48, D49). -/
def Cartridge.ramIndex (c : Cartridge) (o : Nat) : Option Nat :=
  match c.mapper with
  | .noBank => some o
  | m => if m.ramEnabled = true ∧ c.nRam ≠ 0 then some (m.ramBank % c.nRam * c.sRam + o % c.sRam) else none

/-- "Writing a value whose low nibble is 0xA enables it", any other value disables (R248, R251, R253). -/
def ramEnableValue (v : Byte) : Bool := v.setWidth 4 == 0xA#4

/-- A Variant A control write (R248). -/
def variantAWrite (n : Nat) (v : Byte) (en : Bool) (low5 : BitVec 5) (ext2 : BitVec 2) (mode1 : Bool) : Mapper :=
  if n < 0x2000 then .variantA (ramEnableValue v) low5 ext2 mode1
  else if n < 0x4000 then .variantA en (if v.setWidth 5 = 0#5 then 1 else v.setWidth 5) ext2 mode1
  else if n < 0x6000 then .variantA en low5 (v.setWidth 2) mode1
  else .variantA en low5 ext2 (v.getLsbD 0)

/-- A Variant B control write; 0x6000-0x7FFF is the stubbed clock selector, without effect (R251). -/
def variantBWrite (zeroIsOne : Bool) (n : Nat) (v : Byte) (en : Bool) (rom7 : BitVec 7) (ram4 : BitVec 4) : Mapper :=
  if n < 0x2000 then .variantB (ramEnableValue v) rom7 ram4
  else if n < 0x4000 then .variantB en (if v.setWidth 7 = 0#7 ∧ zeroIsOne = true then 1 else v.setWidth 7) ram4
  else if n < 0x6000 then .variantB en rom7 (v.setWidth 4)
  else .variantB en rom7 ram4

/-- A Variant C control write (R253). -/
def variantCWrite (n : Nat) (v : Byte) (en : Bool) (romLo8 : Byte) (romHi1 : BitVec 1) (ram4 : BitVec 4) : Mapper :=
  if n < 0x2000 then .variantC (ramEnableValue v) romLo8 romHi1 ram4
  else if n < 0x3000 then .variantC en v romHi1 ram4
  else if n < 0x4000 then .variantC en romLo8 (v.setWidth 1) ram4
  else if n < 0x6000 then .variantC en romLo8 romHi1 (v.setWidth 4)
  else .variantC en romLo8 romHi1 ram4

/-- `write_rom(n, v)` on the selectors, n < 0x8000 (R247, R248, R251, R253). -/
def Mapper.control (zeroIsOne : Bool) (m : Mapper) (n : Nat) (v : Byte) : Mapper :=
  match m with
  | .noBank => .noBank
  | .variantA en low5 ext2 mode1 => variantAWrite n v en low5 ext2 mode1
  | .variantB en rom7 ram4 => variantBWrite zeroIsOne n v en rom7 ram4
  | .variantC en romLo8 romHi1 ram4 => variantCWrite n v en romLo8 romHi1 ram4

/-- The selectors at power-on (R258). -/
def Mapper.initial : Variant → Mapper
  | .noBank => .noBank
  | .variantA => .variantA false 1 0 false
  | .variantB => .variantB false 1 0
  | .variantC => .variantC false 1 0 0

end Sys2Proof.Machine
end

