-- ==== Sys2Proof/Machine/Video.lean ====
section
/-! DEFINITION. The video controller: its mode entries, the sprite scan, the composition of a row of pixels, and the
transition algorithm of a step (60_exceptions.md R640-R662). -/

namespace Sys2Proof.Machine

/-! ## Registers -/

/-- STAT[1:0] of a mode (R640). -/
def LcdMode.bits : LcdMode → BitVec 2
  | .hblank => 0
  | .vblank => 1
  | .oamSearch => 2
  | .transfer => 3

/-- What STAT reads: 0x80 | STAT[6:3] << 3 | coincidence << 2 | mode (R120). -/
def Video.statByte (v : Video) : Byte :=
  0x80#8 ||| (v.statEnable.setWidth 8 <<< 3) ||| ((BitVec.ofBool v.coincidence).setWidth 8 <<< 2) ||| v.mode.bits.setWidth 8

/-- LCDC.7, "the LCD-enable bit" (R119). -/
def Video.lcdOn (v : Video) : Bool := v.lcdc.getLsbD 7

/-! ## Mode entries -/

/-- The height of a sprite, LCDC.2 (R645). -/
def Video.spriteHeight (v : Video) : Nat := bif v.lcdc.getLsbD 2 then 16 else 8

/-- Sprite k covers line ly: Y <= ly + 16 < Y + h (R645). -/
def Video.spriteOnLine (v : Video) (ly : Nat) (k : Nat) : Bool :=
  let y := (v.oam.read (4 * k)).toNat
  decide (y ≤ ly + 16) && decide (ly + 16 < y + v.spriteHeight)

/-- `sprite_scan(ly)`: the first ten sprites of the line in OAM order (R645). -/
def Video.spriteScan (v : Video) (ly : Nat) : List Nat :=
  ((List.range 40).filter (v.spriteOnLine ly)).take 10

/-- `request(1)`, the LCD-STAT latch, if the condition holds. -/
def Video.requestStatIf (v : Video) (cond : Bool) : Video := { v with pendingStat := v.pendingStat || cond }

/-- `coincidence()` (R649). -/
def Video.checkCoincidence (v : Video) : Video :=
  let w : Video := { v with coincidence := v.ly == v.lyc }
  w.requestStatIf (v.ly == v.lyc && v.statEnable.getLsbD 3)

/-- `enter_oam()` with the mode already 2 (R644). -/
def Video.enterOam (v : Video) : Video :=
  let w : Video := { v with mode := .oamSearch, sprites := v.spriteScan v.ly.toNat }
  (w.requestStatIf (v.statEnable.getLsbD 2)).checkCoincidence

/-- `enter_hblank()` with the mode already 0 (R647). -/
def Video.enterHblank (v : Video) : Video :=
  let w : Video := { v with mode := .hblank }
  w.requestStatIf (v.statEnable.getLsbD 0)

/-- `enter_vblank()` with the mode already 1, less the call to the host (R648). -/
def Video.enterVblank (v : Video) : Video :=
  let w : Video := { v with mode := .vblank, pendingVblank := true, frameComplete := true, windowStarted := false,
                            windowLine := 0 }
  (w.requestStatIf (v.statEnable.getLsbD 1)).checkCoincidence

/-- The write of LCDC with the transition of a change of bit 7 (R119, R650). -/
def Video.writeLcdc (v : Video) (b : Byte) : Video :=
  let w : Video := { v with lcdc := b }
  match v.lcdOn, w.lcdOn with
  | true, false => { w with ly := 0, lineCycles := 0, mode := .hblank }
  | false, true => Video.enterOam { w with ly := 0, lineCycles := 0 }
  | _, _ => w

/-! ## Composition of a row -/

/-- `tile_pixel(b, t, n, r)`: the colour index of column n of row r of tile t in VRAM bank b (R652). -/
def Video.tilePixel (v : Video) (bank t n r : Nat) : Nat :=
  let lo := v.vram.read (bank * 0x2000 + 16 * t + 2 * r)
  let hi := v.vram.read (bank * 0x2000 + 16 * t + 2 * r + 1)
  2 * (hi.getLsbD (7 - n)).toNat + (lo.getLsbD (7 - n)).toNat

/-- The tile a map entry names: t, or 256 + sext_8(t) when LCDC.4 = 0 (R653). -/
def Video.tileNumber (v : Video) (t : Byte) : Nat :=
  bif v.lcdc.getLsbD 4 then t.toNat else (256 + t.toInt).toNat

/-- `VRAM[b][e]` of a map entry read for column x of the map; outside the bank's 8 KiB, which a window line counter of 256
or more can reach, the free value of assumption 17 (R654). -/
def Video.mapByte (v : Video) (b e x : Nat) : Byte :=
  if e < 0x2000 then v.vram.read (b * 0x2000 + e) else Config.freeMapByte v.rowsComposed b e x

/-- `map_pixel(map, x, y)`: the colour index and the attribute byte, which DMG mode has not (R654, R658). -/
def Video.mapPixel (v : Video) (cgb : Bool) (map x y : Nat) : Nat × Byte :=
  let entry := map + 32 * (y / 8) + x / 8
  let attr := bif cgb then v.mapByte 1 entry x else 0
  let px := bif attr.getLsbD 5 then 7 - x % 8 else x % 8
  let py := bif attr.getLsbD 6 then 7 - y % 8 else y % 8
  (v.tilePixel (attr.getLsbD 3).toNat (v.tileNumber (v.mapByte 0 entry x)) px py, attr)

/-- A map's offset in VRAM: 0x1C00 or 0x1800 (R654). -/
def mapOffset (high : Bool) : Nat := bif high then 0x1C00 else 0x1800

/-- The background and window part of a pixel (R654). -/
def Video.backgroundPixel (v : Video) (cgb : Bool) (col : Nat) : Nat × Byte :=
  if (v.lcdc.getLsbD 5 && v.windowStarted) = true ∧ v.wx.toNat ≤ col + 7 then
    v.mapPixel cgb (mapOffset (v.lcdc.getLsbD 6)) (col + 7 - v.wx.toNat) v.windowLine
  else if v.lcdc.getLsbD 0 then
    v.mapPixel cgb (mapOffset (v.lcdc.getLsbD 3)) ((col + v.scx.toNat) % 256) ((v.ly.toNat + v.scy.toNat) % 256)
  else (0, 0)

/-- The row of sprite k on the line, mirrored when its attribute bit 6 says so; an integer, because OAM or LCDC.2 may have
changed since the OAM search (R655). -/
def Video.spriteRow (v : Video) (k : Nat) : Int :=
  let py : Int := (v.ly.toNat : Int) + 16 - (v.oam.read (4 * k)).toNat
  bif (v.oam.read (4 * k + 3)).getLsbD 6 then (v.spriteHeight : Int) - 1 - py else py

/-- The colour index of sprite k at the column, which its span covers (R655). A tall sprite takes the row modulo 8 of the
half-tile its row chooses, whatever the row; a row outside the 8 rows of a low sprite's tile, which R652 does not define, is
the free value of assumption 12. -/
def Video.spriteIndex (v : Video) (cgb : Bool) (col k : Nat) : Nat :=
  let x := (v.oam.read (4 * k + 1)).toNat
  let tile := v.oam.read (4 * k + 2)
  let attr := v.oam.read (4 * k + 3)
  let bank := bif cgb then (attr.getLsbD 3).toNat else 0
  let px := bif attr.getLsbD 5 then 7 - (col + 8 - x) else col + 8 - x
  let py := v.spriteRow k
  if v.lcdc.getLsbD 2 then
    v.tilePixel bank (if py < 8 then tile &&& 0xFE#8 else tile ||| 0x01#8).toNat px (py % 8).toNat
  else if 0 ≤ py ∧ py < 8 then v.tilePixel bank tile.toNat px py.toNat
  else (Config.freeSpritePixel v.rowsComposed k col).toNat

/-- What sprite k gives at the column: its colour index and attributes, if it covers the column and is opaque and in
front of the background pixel (R655). -/
def Video.spritePixel (v : Video) (cgb : Bool) (bg : Nat × Byte) (col k : Nat) : Option (Nat × Byte) :=
  let x := (v.oam.read (4 * k + 1)).toNat
  let attr := v.oam.read (4 * k + 3)
  let ci := v.spriteIndex cgb col k
  if x ≤ col + 8 ∧ col + 8 < x + 8 ∧ ci ≠ 0 ∧ (attr.getLsbD 7 = false ∨ bg.1 = 0)
      ∧ ¬ (cgb = true ∧ bg.2.getLsbD 7 = true ∧ bg.1 ≠ 0) then some (ci, attr)
  else none

/-- The sprite part of a pixel: the first listed sprite that gives one (R655). -/
def Video.foregroundPixel (v : Video) (cgb : Bool) (bg : Nat × Byte) (col : Nat) : Option (Nat × Byte) :=
  if v.lcdc.getLsbD 1 then v.sprites.findSome? (v.spritePixel cgb bg col) else none

/-- The shade a DMG palette gives colour index ci (R656). -/
def dmgShade (palette : Byte) (ci : Nat) : Nat := (palette >>> (2 * ci) &&& 3).toNat

/-- The triple of a shade (R10). -/
def shadeColour (s : Shades) (shade : Nat) : Rgb :=
  if shade = 0 then s.s0 else if shade = 1 then s.s1 else if shade = 2 then s.s2 else s.s3

/-- `expand(c)`: 5 bits to 8 (R656). -/
def expandChannel (c : BitVec 5) : Byte := (c.setWidth 8 <<< 3) ||| (c.setWidth 8 >>> 2)

/-- The colour of palette `p`, index `ci` of a CGB palette RAM (R656, R140). -/
def cgbColour (ram : Memory) (p ci : Nat) : Rgb :=
  let w : BitVec 16 := ram.read (8 * p + 2 * ci + 1) ++ ram.read (8 * p + 2 * ci)
  ⟨expandChannel (w.extractLsb' 0 5), expandChannel (w.extractLsb' 5 5), expandChannel (w.extractLsb' 10 5)⟩

/-- `pixel_colour(col)` (R656). -/
def Video.pixelColour (v : Video) (cgb : Bool) (shades : Shades) (col : Nat) : Rgb :=
  let bg := v.backgroundPixel cgb col
  match cgb, v.foregroundPixel cgb bg col with
  | false, some (ci, attr) => shadeColour shades (dmgShade (bif attr.getLsbD 4 then v.obp1 else v.obp0) ci)
  | false, none => shadeColour shades (dmgShade v.bgp bg.1)
  | true, some (ci, attr) => cgbColour v.obPram (attr &&& 7).toNat ci
  | true, none => cgbColour v.bgPram (bg.2 &&& 7).toNat bg.1

/-- The row of 160 colours (R646). -/
def Video.composeRow (v : Video) (cgb : Bool) (shades : Shades) : List Rgb :=
  (List.range 160).map (v.pixelColour cgb shades)

/-- The window is armed on the line equal to WY (R646). -/
def Video.armWindow (v : Video) : Video :=
  if v.windowStarted = false ∧ v.ly = v.wy then { v with windowStarted := true, windowLine := 0 } else v

/-- What `enter_transfer` leaves of the controller, the mode already 3 (R646). -/
def Video.afterTransfer (v : Video) : Video :=
  let w := v.armWindow
  { w with mode := .transfer, windowLine := bif w.windowStarted then w.windowLine + 1 else w.windowLine,
           rowsComposed := w.rowsComposed + 1 }

/-! ## The step of the controller -/

/-- One mode transition, if one is due (R643): the controller after it and the calls it makes to the host. -/
def Video.transition (v : Video) (cgb : Bool) (shades : Shades) : Option (Video × List HostOutput) :=
  match v.mode with
  | .oamSearch =>
    if 80 ≤ v.lineCycles then some (v.afterTransfer, [.line (v.armWindow.composeRow cgb shades) v.ly]) else none
  | .transfer => if 252 ≤ v.lineCycles then some (v.enterHblank, []) else none
  | .hblank =>
    if 456 ≤ v.lineCycles then
      let w : Video := { v with lineCycles := v.lineCycles - 456, ly := v.ly + 1 }
      if w.ly = 144 then some (w.enterVblank, [.frame]) else some (w.enterOam, [])
    else none
  | .vblank =>
    if 456 ≤ v.lineCycles then
      let w : Video := { v with lineCycles := v.lineCycles - 456, ly := v.ly + 1 }
      if w.ly = 154 then some (Video.enterOam { w with ly := 0 }, []) else some (w.checkCoincidence, [])
    else none

/-- The loop of `video_step`, at most `fuel` transitions (R643). -/
def Video.advance (cgb : Bool) (shades : Shades) : Nat → Video × List HostOutput → Video × List HostOutput
  | 0, p => p
  | fuel + 1, p =>
    match p.1.transition cgb shades with
    | none => p
    | some q => Video.advance cgb shades fuel (q.1, p.2 ++ q.2)

/-- `video_step(display, n)`: the controller and the calls made to the host. Every third transition takes 456 cycles off, so
the loop ends within its fuel (R641, R643). -/
def Video.step (v : Video) (cgb : Bool) (shades : Shades) (n : Nat) : Video × List HostOutput :=
  if v.lcdOn then
    Video.advance cgb shades (v.lineCycles + n + 3) ({ v with lineCycles := v.lineCycles + n }, [])
  else (v, [])

end Sys2Proof.Machine
end

