-- ==== Sys2Proof/Machine/Io.lean ====
section
/-! DEFINITION. The I/O registers 0xFF00-0xFF7F (10_state.md R112-R135): which register an address holds, what it reads,
and what a write does. -/

namespace Sys2Proof.Machine

/-- The registers with a behaviour of their own; `plain` is storage in the flat I/O array (R135). -/
inductive IoReg where
  | p1 | div | tima | tma | tac | ifReg
  | lcdc | stat | scy | scx | ly | lyc | dma | bgp | obp0 | obp1 | wy | wx
  | boot
  | key1 | vbk | hdma1 | hdma2 | hdma3 | hdma4 | hdma5 | bcps | bcpd | ocps | ocpd | svbk
  | plain
  deriving DecidableEq, Repr

/-- The registers of both modes by offset from 0xFF00 (R112). -/
def ioRegBoth (k : Nat) : IoReg :=
  if k = 0x00 then .p1
  else if k = 0x04 then .div
  else if k = 0x05 then .tima
  else if k = 0x06 then .tma
  else if k = 0x07 then .tac
  else if k = 0x0F then .ifReg
  else if k = 0x40 then .lcdc
  else if k = 0x41 then .stat
  else if k = 0x42 then .scy
  else if k = 0x43 then .scx
  else if k = 0x44 then .ly
  else if k = 0x45 then .lyc
  else if k = 0x46 then .dma
  else if k = 0x47 then .bgp
  else if k = 0x48 then .obp0
  else if k = 0x49 then .obp1
  else if k = 0x4A then .wy
  else if k = 0x4B then .wx
  else if k = 0x50 then .boot
  else .plain

/-- The registers of CGB mode only (R112, D60). -/
def ioRegCgb (k : Nat) : IoReg :=
  if k = 0x4D then .key1
  else if k = 0x4F then .vbk
  else if k = 0x51 then .hdma1
  else if k = 0x52 then .hdma2
  else if k = 0x53 then .hdma3
  else if k = 0x54 then .hdma4
  else if k = 0x55 then .hdma5
  else if k = 0x68 then .bcps
  else if k = 0x69 then .bcpd
  else if k = 0x6A then .ocps
  else if k = 0x6B then .ocpd
  else if k = 0x70 then .svbk
  else ioRegBoth k

/-- The register at offset k of the I/O page (R112): a CGB register is plain storage in DMG mode. -/
def ioReg (cgb : Bool) (k : Nat) : IoReg := bif cgb then ioRegCgb k else ioRegBoth k

/-! ## The joypad -/

/-- Four bits, the first argument the most significant. -/
def pack4 (b3 b2 b1 b0 : Bool) : BitVec 4 :=
  BitVec.ofBool b3 ++ BitVec.ofBool b2 ++ BitVec.ofBool b1 ++ BitVec.ofBool b0

/-- The selected nibble of the latch, 0 = pressed (60_exceptions.md R691). -/
def Joypad.nibble (j : Joypad) : BitVec 4 :=
  (bif j.sel.getLsbD 0 then 0xF#4 else ~~~pack4 j.down j.up j.left j.right) &&&
    (bif j.sel.getLsbD 1 then 0xF#4 else ~~~pack4 j.start j.select j.b j.a)

/-- What P1 reads: 0xC0 | sel[5:4] << 4 | nibble (R114, R691). -/
def Joypad.p1Byte (j : Joypad) : Byte := (0b11#2 ++ j.sel) ++ j.nibble

/-! ## Reading -/

/-- BCPD/OCPD: the palette byte at the index register's bits 5-0 (R133). -/
def paletteByte (ram : Memory) (index : Byte) : Byte := ram.read (index.setWidth 6).toNat

/-- What the register at offset k of the I/O page reads (R113-R135). -/
def Mmu.ioRead (m : Mmu) (k : Nat) : Byte :=
  match ioReg m.cgb k with
  | .p1 => m.joypad.p1Byte
  | .div => m.timer.div
  | .tima => m.timer.tima
  | .tma => m.timer.tma
  | .tac => 0xF8#8 ||| m.timer.tac.setWidth 8
  | .ifReg => 0xE0#8 ||| m.intFlag.setWidth 8
  | .lcdc => m.video.lcdc
  | .stat => m.video.statByte
  | .scy => m.video.scy
  | .scx => m.video.scx
  | .ly => m.video.ly
  | .lyc => m.video.lyc
  | .dma => m.oamDma.reg
  | .bgp => m.video.bgp
  | .obp0 => m.video.obp0
  | .obp1 => m.video.obp1
  | .wy => m.video.wy
  | .wx => m.video.wx
  | .boot => m.io.read k
  | .key1 => ((BitVec.ofBool m.doubleSpeed).setWidth 8 <<< 7) ||| 0x7E#8 ||| (BitVec.ofBool m.key1Armed).setWidth 8
  | .vbk => 0xFE#8 ||| m.video.vbk.setWidth 8
  | .hdma1 => 0xFF
  | .hdma2 => 0xFF
  | .hdma3 => 0xFF
  | .hdma4 => 0xFF
  | .hdma5 => 0xFF
  | .bcps => m.video.bcps ||| 0x40#8
  | .bcpd => paletteByte m.video.bgPram m.video.bcps
  | .ocps => m.video.ocps ||| 0x40#8
  | .ocpd => paletteByte m.video.obPram m.video.ocps
  | .svbk => 0xF8#8 ||| m.svbk.setWidth 8
  | .plain => m.io.read k

/-! ## Writing -/

/-- The index register after a palette-data write: bits 5-0 move on by one modulo 64 when bit 7 is 1 (R133). -/
def paletteIndexAfter (index : Byte) : Byte :=
  if index.getLsbD 7 then 0x80#8 ||| (index.setWidth 6 + 1).setWidth 8 else index

/-- The title bytes CART[0x134..0x142] (20_memory.md R240). -/
def Cartridge.title (c : Cartridge) : List Byte := (List.range 15).map fun i => c.rom.read (0x134 + i)

/-- A write of BOOT: the byte is stored and boot mode ends; the metadata is printed when it was still on (R129, R712). -/
def Mmu.writeBoot (m : Mmu) (k : Nat) (v : Byte) : Mmu :=
  { m with io := m.io.write k v, bootMode := false,
           outputs := bif m.bootMode then m.outputs ++ [.title m.cart.title] else m.outputs }

/-- A write of the DMA register starts or restarts an OAM DMA from page v (60_exceptions.md R670). -/
def startOamDma (v : Byte) : OamDma := ⟨v, true, v, 0, 0⟩

/-- A write of HDMA5 with bit 7 = 0 arms the general-purpose transfer (R675). -/
def Hdma.arm (h : Hdma) (v : Byte) : Hdma :=
  { h with armed := true, src := (h.hdma1 ++ h.hdma2 : BitVec 16) &&& 0xFFF0#16,
           dst := ((h.hdma3 ++ h.hdma4 : BitVec 16) &&& 0x1FF0#16).setWidth 13,
           len := 16 * ((v.setWidth 7).toNat + 1) }

/-- A write of v to the register at offset k of the I/O page (R113-R135), other than the fatal write of HDMA5. -/
def Mmu.ioWrite (m : Mmu) (k : Nat) (v : Byte) : Mmu :=
  match ioReg m.cgb k with
  | .p1 => { m with joypad := { m.joypad with sel := v.extractLsb' 4 2 } }
  | .div => { m with timer := { m.timer with div := 0, divAcc := 0 } }
  | .tima => { m with timer := { m.timer with tima := v } }
  | .tma => { m with timer := { m.timer with tma := v } }
  | .tac => { m with timer := { m.timer with tac := v.setWidth 3 } }
  | .ifReg => { m with intFlag := v.setWidth 5 }
  | .lcdc => { m with video := m.video.writeLcdc v }
  | .stat => { m with video := { m.video with statEnable := v.extractLsb' 3 4 } }
  | .scy => { m with video := { m.video with scy := v } }
  | .scx => { m with video := { m.video with scx := v } }
  | .ly => m
  | .lyc => { m with video := { m.video with lyc := v } }
  | .dma => { m with oamDma := startOamDma v }
  | .bgp => { m with video := { m.video with bgp := v } }
  | .obp0 => { m with video := { m.video with obp0 := v } }
  | .obp1 => { m with video := { m.video with obp1 := v } }
  | .wy => { m with video := { m.video with wy := v } }
  | .wx => { m with video := { m.video with wx := v } }
  | .boot => m.writeBoot k v
  | .key1 => { m with key1Armed := v.getLsbD 0 }
  | .vbk => { m with video := { m.video with vbk := v.setWidth 1 } }
  | .hdma1 => { m with hdma := { m.hdma with hdma1 := v } }
  | .hdma2 => { m with hdma := { m.hdma with hdma2 := v } }
  | .hdma3 => { m with hdma := { m.hdma with hdma3 := v } }
  | .hdma4 => { m with hdma := { m.hdma with hdma4 := v } }
  | .hdma5 => { m with hdma := m.hdma.arm v }
  | .bcps => { m with video := { m.video with bcps := v &&& 0xBF#8 } }
  | .bcpd => { m with video := { m.video with bgPram := m.video.bgPram.write (m.video.bcps.setWidth 6).toNat v,
                                              bcps := paletteIndexAfter m.video.bcps } }
  | .ocps => { m with video := { m.video with ocps := v &&& 0xBF#8 } }
  | .ocpd => { m with video := { m.video with obPram := m.video.obPram.write (m.video.ocps.setWidth 6).toNat v,
                                              ocps := paletteIndexAfter m.video.ocps } }
  | .svbk => { m with svbk := v.setWidth 3 }
  | .plain => { m with io := m.io.write k v }

end Sys2Proof.Machine
end

