-- ==== Sys2Proof/Machine/Ops.lean ====
section
/-! DEFINITION. The operations every instruction is written with: the address decode and the MMU read and write
(20_memory.md R200-R226), the registers (10_state.md R100-R105), fetch and stack (00_scope.md R14, R15), the fatal
conditions (60_exceptions.md R600, R601), and the taking of an interrupt with the return from one (R605, R550). -/

namespace Sys2Proof.Machine

/-- What a meaning answers. -/
abbrev Result := Host.Outcome State Fault Refusal

/-! ## Address decode -/

/-- Where an address leads: the storage array and the index in it, or what else stands there (R201). -/
inductive Loc where
  | boot (k : Nat)
  | rom (k : Nat)
  | vram (k : Nat)
  | extRam (k : Nat)
  | noRam
  | wram (k : Nat)
  | oam (k : Nat)
  | unusable
  | io (k : Nat)
  | hram (k : Nat)
  | ie
  deriving DecidableEq, Repr

/-- The boot ROM overlays address n (R203). -/
def Mmu.overlaid (m : Mmu) (n : Nat) : Bool :=
  m.bootMode && (decide (n < 0x100) || (m.cgb && decide (0x200 ≤ n) && decide (n < 0x900)))

/-- `vbank` (R201). -/
def Mmu.vbank (m : Mmu) : Nat := bif m.cgb then m.video.vbk.toNat else 0

/-- `wbank` (R201): SVBK 0 selects bank 1. -/
def Mmu.wbank (m : Mmu) : Nat := bif m.cgb && m.svbk != 0 then m.svbk.toNat else 1

/-- The echo of work RAM stands for the address 0x2000 below (R208). -/
def unecho (n : Nat) : Nat := if 0xE000 ≤ n ∧ n < 0xFE00 then n - 0x2000 else n

/-- Where external RAM offset o leads (R250). -/
def Cartridge.ramLoc (c : Cartridge) (o : Nat) : Loc :=
  match c.ramIndex o with
  | some k => .extRam k
  | none => .noRam

/-- The address decode of a read (R201); a write goes the same way from 0x8000 on (R202). -/
def Mmu.locate (m : Mmu) (a : Word) : Loc :=
  let n := unecho a.toNat
  if m.overlaid n then .boot n
  else if n < 0x8000 then .rom (m.cart.romIndex n)
  else if n < 0xA000 then .vram (m.vbank * 0x2000 + (n - 0x8000))
  else if n < 0xC000 then m.cart.ramLoc (n - 0xA000)
  else if n < 0xD000 then .wram (n - 0xC000)
  else if n < 0xE000 then .wram (m.wbank * 0x1000 + (n - 0xD000))
  else if n < 0xFEA0 then .oam (n - 0xFE00)
  else if n < 0xFF00 then .unusable
  else if n < 0xFF80 then .io (n - 0xFF00)
  else if n < 0xFFFF then .hram (n - 0xFF80)
  else .ie

/-- VRAM reads are blocked: LCD on and mode 3 (R214). -/
def Video.vramBlocked (v : Video) : Bool := v.lcdOn && v.mode == .transfer

/-- OAM reads are blocked: LCD on and mode 2 or 3 (R214). -/
def Video.oamBlocked (v : Video) : Bool := v.lcdOn && (v.mode == .oamSearch || v.mode == .transfer)

/-- `MemRead(a, 1)` (R201). It returns no state: reads have no side effect (R219). -/
def Mmu.read (m : Mmu) (cfg : Config) (a : Word) : Byte :=
  match m.locate a with
  | .boot k => m.bootRom.read k
  | .rom k => m.cart.rom.read k
  | .vram k => bif m.video.vramBlocked then cfg.blockedRead else m.video.vram.read k
  | .extRam k => m.cart.ram.read k
  | .noRam => 0xFF
  | .wram k => m.wram.read k
  | .oam k => bif m.video.oamBlocked then cfg.blockedRead else m.video.oam.read k
  | .unusable => cfg.unusableRead
  | .io k => m.ioRead k
  | .hram k => m.hram.read k
  | .ie => m.intEnable

/-- `MemWrite(a, 1, v)`, other than the fatal one (R202): below 0x8000 a control write of the MemoryBank, the boot overlay
notwithstanding (D58). -/
def Mmu.write (m : Mmu) (cfg : Config) (a : Word) (v : Byte) : Mmu :=
  if a.toNat < 0x8000 then
    { m with cart := { m.cart with mapper := m.cart.mapper.control cfg.mbc3ZeroIsOne a.toNat v } }
  else
    match m.locate a with
    | .boot _ => m
    | .rom _ => m
    | .vram k => { m with video := { m.video with vram := m.video.vram.write k v } }
    | .extRam k => { m with cart := { m.cart with ram := m.cart.ram.write k v } }
    | .noRam => m
    | .wram k => { m with wram := m.wram.write k v }
    | .oam k => { m with video := { m.video with oam := m.video.oam.write k v } }
    | .unusable => m
    | .io k => m.ioWrite k v
    | .hram k => { m with hram := m.hram.write k v }
    | .ie => { m with intEnable := v }

/-- The write raises Fatal(F5): HDMA5 with bit 7 = 1, in CGB mode (60_exceptions.md R675). -/
def Mmu.hblankDmaRequest (m : Mmu) (a : Word) (v : Byte) : Bool := m.cgb && a == 0xFF55#16 && v.getLsbD 7

/-- What an instruction, the fetch and the debugger read at an address. -/
def State.read (s : State) (a : Word) : Byte := s.mmu.read s.config a

/-- A store that is not fatal. -/
def State.store (s : State) (a : Word) (v : Byte) : State := { s with mmu := s.mmu.write s.config a v }

/-- `raise Fatal(Fn, info)`: enter the fault state (R601). -/
def State.raise (s : State) (f : Fault) : State := { s with fault := some f }

/-- `MemWrite(a, 1, v)` and then `k`; a fatal write enters the fault state and nothing after it is performed
(00_scope.md R16). -/
def State.memWrite (s : State) (a : Word) (v : Byte) (k : State → State) : State :=
  if s.mmu.hblankDmaRequest a v then s.raise (.f5HblankDma v) else k (s.store a v)

/-! ## Registers -/

/-- `cycles k`: the step returns cost k (R16). -/
def State.tick (s : State) (k : Nat) : State := { s with cost := k }

/-- `x[R]`, R an 8-bit register (R13). -/
def State.reg8 (s : State) : Reg8 → Byte
  | .a => s.regs.a
  | .b => s.regs.b
  | .c => s.regs.c
  | .d => s.regs.d
  | .e => s.regs.e
  | .h => s.regs.h
  | .l => s.regs.l

/-- The register file with one 8-bit register written. -/
def Regs.set8 (r : Regs) (x : Reg8) (v : Byte) : Regs :=
  match x with
  | .a => { r with a := v }
  | .b => { r with b := v }
  | .c => { r with c := v }
  | .d => { r with d := v }
  | .e => { r with e := v }
  | .h => { r with h := v }
  | .l => { r with l := v }

/-- `x[R] <- v`, R an 8-bit register. -/
def State.setReg8 (s : State) (x : Reg8) (v : Byte) : State := { s with regs := s.regs.set8 x v }

/-- F read as a whole; its low nibble is always zero (10_state.md R102). -/
def State.regF (s : State) : Byte := s.regs.f &&& 0xF0#8

/-- F written as a whole: `v & 0xF0` is stored (R102). -/
def State.setF (s : State) (v : Byte) : State := { s with regs := { s.regs with f := v &&& 0xF0#8 } }

/-- BC (R101). -/
def State.bc (s : State) : Word := word16 s.regs.b s.regs.c
/-- DE (R101). -/
def State.de (s : State) : Word := word16 s.regs.d s.regs.e
/-- HL (R101). -/
def State.hl (s : State) : Word := word16 s.regs.h s.regs.l

/-- `x[BC] <- v` (R101). -/
def State.setBC (s : State) (v : Word) : State := { s with regs := { s.regs with b := hi8 v, c := lo8 v } }
/-- `x[DE] <- v` (R101). -/
def State.setDE (s : State) (v : Word) : State := { s with regs := { s.regs with d := hi8 v, e := lo8 v } }
/-- `x[HL] <- v` (R101). -/
def State.setHL (s : State) (v : Word) : State := { s with regs := { s.regs with h := hi8 v, l := lo8 v } }
/-- `x[AF] <- v`: F's low nibble stays zero (R102). -/
def State.setAF (s : State) (v : Word) : State :=
  { s with regs := { s.regs with a := hi8 v, f := lo8 v &&& 0xF0#8 } }
/-- `x[SP] <- v` (R104). -/
def State.setSP (s : State) (v : Word) : State := { s with sp := v }
/-- `pc <- target` (R13). -/
def State.jump (s : State) (target : Word) : State := { s with pc := target }

/-! ## Fetch and stack -/

/-- `fetch8()`: the byte at PC, and PC moved past it (R15). -/
def State.fetch8 (s : State) : Byte × State := (s.read s.pc, { s with pc := s.pc + 1 })

/-- The instruction at PC, and the state with PC past the bytes the decoder took (R15, R105). Reads have no side effect
(R219), so the operand bytes may be read with the opcode. -/
def State.fetchInstr (s : State) : Instr × State :=
  (decodeBytes (s.read s.pc) (s.read (s.pc + 1)) (s.read (s.pc + 2)),
   { s with pc := s.pc + BitVec.ofNat 16 (instrLength (s.read s.pc)) })

/-- `push16(v)` and then `k`: SP down, the high byte written, SP down, the low byte written (R15, R216). -/
def State.push16 (s : State) (v : Word) (k : State → State) : State :=
  (s.setSP (s.sp - 1)).memWrite (s.sp - 1) (hi8 v) fun s1 =>
    (s1.setSP (s1.sp - 1)).memWrite (s1.sp - 1) (lo8 v) k

/-- `pop16()`: the low byte read, SP up, the high byte read, SP up (R15). -/
def State.pop16 (s : State) : Word × State :=
  (word16 (s.read (s.sp + 1)) (s.read s.sp), s.setSP (s.sp + 2))

/-! ## Interrupts -/

/-- The interrupt sources in priority order (60_exceptions.md R603). -/
inductive Source where
  | vblank | lcdStat | timer | serial | joypad
  deriving DecidableEq, Repr

/-- The bit of a source in IF and IE (R603). -/
def Source.index : Source → Nat
  | .vblank => 0
  | .lcdStat => 1
  | .timer => 2
  | .serial => 3
  | .joypad => 4

/-- The vector of a source, 0x0040 + 8*i (R603). -/
def Source.vector (i : Source) : Word := BitVec.ofNat 16 (0x40 + 8 * i.index)

/-- `IE[i] = 1 and IF[i] = 1`. -/
def Mmu.isReady (m : Mmu) (i : Source) : Bool := m.intEnable.getLsbD i.index && m.intFlag.getLsbD i.index

/-- The first ready source in priority order (R605, R606). -/
def Mmu.readySource (m : Mmu) : Option Source :=
  [Source.vblank, .lcdStat, .timer, .serial, .joypad].find? m.isReady

/-- `IF[i] <- 0`. -/
def Mmu.clearRequest (m : Mmu) (i : Source) : Mmu := { m with intFlag := m.intFlag &&& ~~~(1#5 <<< i.index) }

/-- Taking an interrupt (R605, R607): `halted` and IME are cleared, PC is pushed, the request bit is cleared and PC goes to
the vector; the cost is 24 when the CPU was halted, else 20. The push goes through the MMU and can be fatal. -/
def State.takeInterrupt (s : State) (i : Source) : State :=
  let cost := bif s.halted then 24 else 20
  State.push16 { s with halted := false, ime := false } s.pc fun s1 =>
    (({ s1 with mmu := s1.mmu.clearRequest i }).jump i.vector).tick cost

/-- `pc <- pop16()`: the return of RET, RET cc and RETI (R548-R550). -/
def State.popPC (s : State) : State := s.pop16.2.jump s.pop16.1

/-- The return from an interrupt: PC popped and IME set at once (R550, R608). -/
def State.returnFromInterrupt (s : State) : State := { s.popPC with ime := true }

end Sys2Proof.Machine
end

