-- ==== Sys2Proof/Machine/Devices.lean ====
section
/-! DEFINITION. What runs beside the CPU in a step: the timer, OAM DMA, general-purpose VRAM DMA, `mmu_step`, the video
controller's share of a step, and the host's key events (60_exceptions.md R604, R614, R616, R620-R622, R670-R676,
R690-R693). -/

namespace Sys2Proof.Machine

/-! ## Timer -/

/-- `div_acc` and DIV after c cycles: the loop of R620 in closed form. -/
def Timer.stepDiv (t : Timer) (c : Nat) : Timer :=
  { t with divAcc := (t.divAcc + c) % 256, div := t.div + BitVec.ofNat 8 ((t.divAcc + c) / 256) }

/-- The period of TIMA, TAC[1:0] (R118, R621). -/
def timerPeriod (tac : BitVec 3) : Nat :=
  if tac.setWidth 2 = 0#2 then 1024 else if tac.setWidth 2 = 1#2 then 16 else if tac.setWidth 2 = 2#2 then 64 else 256

/-- `tima_tick()` (R622). -/
def Timer.tick (t : Timer) : Timer :=
  if t.tima = 0xFF then { t with tima := t.tma, pending := true } else { t with tima := t.tima + 1 }

/-- n ticks. -/
def Timer.ticks : Nat → Timer → Timer
  | 0, t => t
  | n + 1, t => Timer.ticks n t.tick

/-- `tima_acc` and TIMA after c cycles: as many ticks as whole periods have passed, while TAC[2] = 1 (R621). -/
def Timer.stepTima (t : Timer) (c : Nat) : Timer :=
  if t.tac.getLsbD 2 then
    Timer.ticks ((t.timaAcc + c) / timerPeriod t.tac) { t with timaAcc := (t.timaAcc + c) % timerPeriod t.tac }
  else t

/-- `timer_step(c)` (R620, R621). -/
def Timer.step (t : Timer) (c : Nat) : Timer := (t.stepDiv c).stepTima c

/-! ## DMA -/

/-- The source address of the next byte of an OAM DMA: (dma_src_page << 8) + dma_cursor (R671). -/
def OamDma.source (d : OamDma) : Word := word16 d.srcPage 0 + BitVec.ofNat 16 d.cursor

/-- One byte of an OAM DMA: an ordinary MMU read, a direct OAM write (R671). -/
def Mmu.oamDmaByte (m : Mmu) (cfg : Config) : Mmu :=
  let v := m.read cfg m.oamDma.source
  { m with video := { m.video with oam := m.video.oam.write m.oamDma.cursor v },
           oamDma := { m.oamDma with cursor := m.oamDma.cursor + 1, acc := m.oamDma.acc - 4 } }

/-- The loop of `oam_dma_step`: a byte while four cycles are left and the cursor is below 160 (R671). -/
def Mmu.oamDmaLoop (cfg : Config) : Nat → Mmu → Mmu
  | 0, m => m
  | n + 1, m => if 4 ≤ m.oamDma.acc ∧ m.oamDma.cursor < 160 then Mmu.oamDmaLoop cfg n (m.oamDmaByte cfg) else m

/-- `oam_dma_step(c)` (R671). The loop ends within its 160 turns. -/
def Mmu.oamDmaStep (m : Mmu) (cfg : Config) (c : Nat) : Mmu :=
  if m.oamDma.active then
    let m1 := Mmu.oamDmaLoop cfg 160 { m with oamDma := { m.oamDma with acc := m.oamDma.acc + c } }
    if m1.oamDma.cursor = 160 then { m1 with oamDma := { m1.oamDma with active := false } } else m1
  else m

/-- The VRAM index byte i of a VRAM DMA goes to: inside the bank VBK selects (R676, D70). -/
def Mmu.hdmaTarget (m : Mmu) (i : Nat) : Nat := m.vbank * 0x2000 + (m.hdma.dst.toNat + i) % 0x2000

/-- Byte i of a VRAM DMA: the source is read through the MMU (R676). -/
def Mmu.hdmaByte (m : Mmu) (cfg : Config) (i : Nat) : Mmu :=
  let v := m.read cfg (m.hdma.src + BitVec.ofNat 16 i)
  { m with video := { m.video with vram := m.video.vram.write (m.hdmaTarget i) v } }

/-- Bytes i, i + 1, ..., in this order, n of them (R676). -/
def Mmu.hdmaLoop (cfg : Config) : Nat → Nat → Mmu → Mmu
  | 0, _, m => m
  | n + 1, i, m => Mmu.hdmaLoop cfg n (i + 1) (m.hdmaByte cfg i)

/-- `hdma_step()`: an armed transfer copies its whole block and marks itself complete (R676). -/
def Mmu.hdmaStep (m : Mmu) (cfg : Config) : Mmu :=
  if m.hdma.armed then
    let m1 := Mmu.hdmaLoop cfg m.hdma.len 0 m
    { m1 with hdma := { m1.hdma with len := 0, armed := false } }
  else m

/-! ## `mmu_step` and the video controller's share -/

/-- The requests of the devices as bits of IF (R149, R603). -/
def Mmu.pendingBits (m : Mmu) : BitVec 5 :=
  BitVec.ofBool m.joypad.pending ++ 0#1 ++ BitVec.ofBool m.timer.pending ++ BitVec.ofBool m.video.pendingStat ++
    BitVec.ofBool m.video.pendingVblank

/-- The devices' requests are ORed into IF and cleared (R604). -/
def Mmu.collectRequests (m : Mmu) : Mmu :=
  { m with intFlag := m.intFlag ||| m.pendingBits,
           joypad := { m.joypad with pending := false },
           timer := { m.timer with pending := false },
           video := { m.video with pendingStat := false, pendingVblank := false } }

/-- `mmu_step(c)` (R604). -/
def Mmu.step (m : Mmu) (cfg : Config) (c : Nat) : Mmu :=
  let m1 := m.collectRequests
  (Mmu.oamDmaStep { m1 with timer := m1.timer.step c } cfg c).hdmaStep cfg

/-- `video_step(display, n)` with the calls to the host appended (R643). -/
def Mmu.videoStep (m : Mmu) (cfg : Config) (n : Nat) : Mmu :=
  let r := m.video.step m.cgb cfg.dmgShades n
  { m with video := r.1, outputs := m.outputs ++ r.2 }

/-- The peripherals' share of a step of cost c, `ds` being the speed before it: the video controller with c or c / 2, then
the MMU with c (R614, R616). -/
def Mmu.peripherals (m : Mmu) (cfg : Config) (ds : Bool) (c : Nat) : Mmu :=
  (m.videoStep cfg (bif ds then c / 2 else c)).step cfg c

/-! ## Key events -/

/-- A button's latch bit (R152). -/
def Joypad.set (j : Joypad) (x : Button) (v : Bool) : Joypad :=
  match x with
  | .start => { j with start := v }
  | .select => { j with select := v }
  | .b => { j with b := v }
  | .a => { j with a := v }
  | .down => { j with down := v }
  | .up => { j with up := v }
  | .left => { j with left := v }
  | .right => { j with right := v }

/-- A button's latch bit, read. -/
def Joypad.bit (j : Joypad) : Button → Bool
  | .start => j.start
  | .select => j.select
  | .b => j.b
  | .a => j.a
  | .down => j.down
  | .up => j.up
  | .left => j.left
  | .right => j.right

/-- `key_pressed` sets the bit and requests; `key_released` clears it (R692). -/
def Joypad.event (j : Joypad) : KeyEvent → Joypad
  | .press x => { j.set x true with pending := true }
  | .release x => j.set x false

/-- The host's key events at the boundary before a step (R711). -/
def State.takeKeyEvents (s : State) : State :=
  match s.keyEvents with
  | [] => s
  | now :: later => { s with keyEvents := later, mmu := { s.mmu with joypad := now.foldl Joypad.event s.mmu.joypad } }

end Sys2Proof.Machine
end

