-- ==== Sys2Proof/Machine/Flags.lean ====
section
/-! DEFINITION. The flags: F.7 Z, F.6 N, F.5 H, F.4 C (10_state.md R103), and every computation that gives a result with its
flags. A computation answers the pair (result, F). -/

namespace Sys2Proof.Machine

/-! ## The flag register -/

/-- Z, F.7. -/
def State.flagZ (s : State) : Bool := s.regs.f.getLsbD 7
/-- N, F.6. -/
def State.flagN (s : State) : Bool := s.regs.f.getLsbD 6
/-- H, F.5. -/
def State.flagH (s : State) : Bool := s.regs.f.getLsbD 5
/-- C, F.4. -/
def State.flagC (s : State) : Bool := s.regs.f.getLsbD 4

/-- The byte of F for Z, N, H, C; its low nibble is zero (R102). -/
def packF (z n h c : Bool) : Byte := pack4 z n h c ++ 0#4

/-- Write Z, N, H and C. -/
def State.setFlags (s : State) (z n h c : Bool) : State := { s with regs := { s.regs with f := packF z n h c } }

/-! ## 8-bit arithmetic and logic -/

/-- `Add8(a, b, cin)` (41_alu8.md R440). -/
def add8 (a b : Byte) (cin : Bool) : Byte × Byte :=
  let s := a.toNat + b.toNat + cin.toNat
  let res := BitVec.ofNat 8 s
  (res, packF (res == 0) false (decide (a.toNat % 16 + b.toNat % 16 + cin.toNat > 0x0F)) (decide (s > 0xFF)))

/-- `Sub8(a, b, cin)` (R441). -/
def sub8 (a b : Byte) (cin : Bool) : Byte × Byte :=
  let res := BitVec.ofInt 8 ((a.toNat : Int) - b.toNat - cin.toNat)
  (res, packF (res == 0) true (decide (a.toNat % 16 < b.toNat % 16 + cin.toNat)) (decide (a.toNat < b.toNat + cin.toNat)))

/-- AND: Z 0 1 0 (R447). -/
def and8 (a b : Byte) : Byte × Byte := (a &&& b, packF (a &&& b == 0) false true false)
/-- XOR: Z 0 0 0 (R448). -/
def xor8 (a b : Byte) : Byte × Byte := (a ^^^ b, packF (a ^^^ b == 0) false false false)
/-- OR: Z 0 0 0 (R449). -/
def or8 (a b : Byte) : Byte × Byte := (a ||| b, packF (a ||| b == 0) false false false)

/-- INC: Z 0 H -, H on a low nibble 0xF; c is the carry kept (R451). -/
def inc8 (v : Byte) (c : Bool) : Byte × Byte := (v + 1, packF (v + 1 == 0) false (v.setWidth 4 == 0xF#4) c)
/-- DEC: Z 1 H -, H on a low nibble 0; c is the carry kept (R453). -/
def dec8 (v : Byte) (c : Bool) : Byte × Byte := (v - 1, packF (v - 1 == 0) true (v.setWidth 4 == 0#4) c)

/-- DAA on A with the flags N, H, C: the adjusted A and the new carry (R455). -/
def daaAdjust (a : Byte) (n h c : Bool) : Byte × Bool :=
  if n then
    let a1 := bif c then a - 0x60 else a
    (bif h then a1 - 0x06 else a1, c)
  else
    let big := c || decide (a.toNat > 0x99)
    let a1 := bif big then a + 0x60 else a
    (bif h || decide (a1.toNat % 16 > 9) then a1 + 0x06 else a1, big)

/-- DAA: Z - 0 C (R455). -/
def daa8 (a : Byte) (n h c : Bool) : Byte × Byte :=
  let r := daaAdjust a n h c
  (r.1, packF (r.1 == 0) n false r.2)

/-! ## 16-bit arithmetic -/

/-- ADD HL,rr: - 0 H C, H out of bit 11, C out of bit 15; z is the zero flag kept (42_alu16.md R480). -/
def add16 (a b : Word) (z : Bool) : Word × Byte :=
  (BitVec.ofNat 16 (a.toNat + b.toNat),
   packF z false (decide (a.toNat % 0x1000 + b.toNat % 0x1000 > 0x0FFF)) (decide (a.toNat + b.toNat > 0xFFFF)))

/-- e8 as a 16-bit value: `sext_8(e) mod 65536` (R12, R308). -/
def sext16 (e : Byte) : Word := e.signExtend 16

/-- `SPe8(e)`: 0 0 H C, both from the low byte (R483, 90_conflicts.md C3). -/
def spPlusE8 (sp : Word) (e : Byte) : Word × Byte :=
  (sp + sext16 e,
   packF false false (decide (sp.toNat % 16 + e.toNat % 16 > 0x0F)) (decide (sp.toNat % 256 + e.toNat > 0xFF)))

/-! ## Rotates and shifts: the result and the bit shifted out (43_rotate_shift_bit.md R500-R512) -/

/-- The result of rotating left: bit 7 to carry and bit 0 (R505). -/
def rlc8 (v : Byte) : Byte × Bool := ((v <<< 1) ||| (BitVec.ofBool (v.getLsbD 7)).setWidth 8, v.getLsbD 7)
/-- Rotate right: bit 0 to carry and bit 7 (R506). -/
def rrc8 (v : Byte) : Byte × Bool := ((v >>> 1) ||| ((BitVec.ofBool (v.getLsbD 0)).setWidth 8 <<< 7), v.getLsbD 0)
/-- Rotate left through the carry c (R507). -/
def rl8 (v : Byte) (c : Bool) : Byte × Bool := ((v <<< 1) ||| (BitVec.ofBool c).setWidth 8, v.getLsbD 7)
/-- Rotate right through the carry c (R508). -/
def rr8 (v : Byte) (c : Bool) : Byte × Bool := ((v >>> 1) ||| ((BitVec.ofBool c).setWidth 8 <<< 7), v.getLsbD 0)
/-- Shift left (R509). -/
def sla8 (v : Byte) : Byte × Bool := (v <<< 1, v.getLsbD 7)
/-- Shift right, bit 7 kept (R510). -/
def sra8 (v : Byte) : Byte × Bool := ((v >>> 1) ||| (v &&& 0x80#8), v.getLsbD 0)
/-- Exchange the nibbles; C is cleared (R511). -/
def swap8 (v : Byte) : Byte × Bool := ((v <<< 4) ||| (v >>> 4), false)
/-- Shift right, bit 7 zero (R512). -/
def srl8 (v : Byte) : Byte × Bool := (v >>> 1, v.getLsbD 0)

end Sys2Proof.Machine
end

