-- ==== Sys2Proof/Machine/Operands.lean ====
section
/-! DEFINITION. Operand forms: 8-bit places r[k] with (HL), ALU sources, register pairs, stack pairs, conditions, high-page
addresses (30_encoding.md R303-R310). -/

namespace Sys2Proof.Machine

/-- `r[k]`: a register, or (HL) for k = 6 (R303). -/
inductive Place8 where
  | reg (r : Reg8)
  | memHL
  deriving DecidableEq, Repr

/-- `r[k]` by number (R303). -/
def place8 (k : Nat) : Place8 :=
  if k = 0 then .reg .b else if k = 1 then .reg .c else if k = 2 then .reg .d else if k = 3 then .reg .e
  else if k = 4 then .reg .h else if k = 5 then .reg .l else if k = 6 then .memHL else .reg .a

/-- Read a place: the register, or the byte at HL (R303). -/
def State.readPlace (s : State) : Place8 → Byte
  | .reg r => s.reg8 r
  | .memHL => s.read s.hl

/-- Write a place and then `k` (R303). -/
def State.writePlace (s : State) (p : Place8) (v : Byte) (k : State → State) : State :=
  match p with
  | .reg r => k (s.setReg8 r v)
  | .memHL => s.memWrite s.hl v k

/-- The cost of an instruction by its place: r for a register, m for (HL). -/
def Place8.cost (p : Place8) (r m : Nat) : Nat :=
  match p with
  | .reg _ => r
  | .memHL => m

/-- The source of a two-operand 8-bit instruction (41_alu8.md R442). -/
inductive Src8 where
  | reg (r : Reg8)
  | memHL
  | imm (n : Byte)
  deriving DecidableEq, Repr

/-- The value of a source (R442). -/
def State.src8 (s : State) : Src8 → Byte
  | .reg r => s.reg8 r
  | .memHL => s.read s.hl
  | .imm n => n

/-- 4 cycles for a register, 8 for (HL) and n8 (R442). -/
def Src8.cost : Src8 → Nat
  | .reg _ => 4
  | .memHL => 8
  | .imm _ => 8

/-- `rp[p]` (R304). -/
inductive Pair where
  | bc | de | hl | sp
  deriving DecidableEq, Repr

/-- `x[rp[p]]`. -/
def State.pair (s : State) : Pair → Word
  | .bc => s.bc
  | .de => s.de
  | .hl => s.hl
  | .sp => s.sp

/-- `x[rp[p]] <- v`. -/
def State.setPair (s : State) (p : Pair) (v : Word) : State :=
  match p with
  | .bc => s.setBC v
  | .de => s.setDE v
  | .hl => s.setHL v
  | .sp => s.setSP v

/-- `rp2[p]` (R305). -/
inductive StackPair where
  | bc | de | hl | af
  deriving DecidableEq, Repr

/-- `x[rp2[p]]`; F's low nibble reads zero (R102). -/
def State.stackPair (s : State) : StackPair → Word
  | .bc => s.bc
  | .de => s.de
  | .hl => s.hl
  | .af => word16 s.regs.a s.regF

/-- `x[rp2[p]] <- v`; into AF F's low nibble is not stored (R102, R424). -/
def State.setStackPair (s : State) (p : StackPair) (v : Word) : State :=
  match p with
  | .bc => s.setBC v
  | .de => s.setDE v
  | .hl => s.setHL v
  | .af => s.setAF v

/-- `cc[k]` (R306). -/
inductive Cond where
  | nz | z | nc | c
  deriving DecidableEq, Repr

/-- `cond(k)` (44_control.md R540). -/
def State.cond (s : State) : Cond → Bool
  | .nz => !s.flagZ
  | .z => s.flagZ
  | .nc => !s.flagC
  | .c => s.flagC

/-- The high-page address 0xFF00 + n (R310). -/
def highPage (n : Byte) : Word := word16 0xFF n

end Sys2Proof.Machine
end

