-- ==== Sys2Proof/Machine/Alu16.lean ====
section
/-! DEFINITION. 16-bit arithmetic (42_alu16.md R480-R485): the shared operations, then one meaning for each row. -/

namespace Sys2Proof.Machine

/-- `ADD HL,rr` (R480). -/
def addHL (p : Pair) (s : State) : State :=
  let r := add16 s.hl (s.pair p) s.flagZ
  (State.setHL { s with regs := { s.regs with f := r.2 } } r.1).tick 8

/-- `INC rr` (R481). -/
def incPair (p : Pair) (s : State) : State := (s.setPair p (s.pair p + 1)).tick 8

/-- `DEC rr` (R482). -/
def decPair (p : Pair) (s : State) : State := (s.setPair p (s.pair p - 1)).tick 8

/-- `SPe8(e)` into SP or HL, at a cost (R483-R485). -/
def spE8To (p : Pair) (cost : Nat) (e : Byte) (s : State) : State :=
  let r := spPlusE8 s.sp e
  (State.setPair { s with regs := { s.regs with f := r.2 } } p r.1).tick cost

/-- `INC BC` (R481). -/
def execInc_BC (s : State) : Result := .next (incPair .bc s)

/-- `ADD HL,BC` (R480). -/
def execAdd_HL_BC (s : State) : Result := .next (addHL .bc s)

/-- `DEC BC` (R482). -/
def execDec_BC (s : State) : Result := .next (decPair .bc s)

/-- `INC DE` (R481). -/
def execInc_DE (s : State) : Result := .next (incPair .de s)

/-- `ADD HL,DE` (R480). -/
def execAdd_HL_DE (s : State) : Result := .next (addHL .de s)

/-- `DEC DE` (R482). -/
def execDec_DE (s : State) : Result := .next (decPair .de s)

/-- `INC HL` (R481). -/
def execInc_HL (s : State) : Result := .next (incPair .hl s)

/-- `ADD HL,HL` (R480). -/
def execAdd_HL_HL (s : State) : Result := .next (addHL .hl s)

/-- `DEC HL` (R482). -/
def execDec_HL (s : State) : Result := .next (decPair .hl s)

/-- `INC SP` (R481). -/
def execInc_SP (s : State) : Result := .next (incPair .sp s)

/-- `ADD HL,SP` (R480). -/
def execAdd_HL_SP (s : State) : Result := .next (addHL .sp s)

/-- `DEC SP` (R482). -/
def execDec_SP (s : State) : Result := .next (decPair .sp s)

/-- `ADD SP,e8` (R484). -/
def execAdd_SP_e8 (e : Byte) (s : State) : Result := .next (spE8To .sp 16 e s)

/-- `LD HL,SP+e8` (R485). -/
def execLd_HL_SPe8 (e : Byte) (s : State) : Result := .next (spE8To .hl 12 e s)

end Sys2Proof.Machine
end

