-- ==== Sys2Proof/Machine/Alu8.lean ====
section
/-! DEFINITION. 8-bit arithmetic and logic (41_alu8.md R440-R458): the shared operations, then one meaning for each row. -/

namespace Sys2Proof.Machine

/-- A and F written with a result and its flags. -/
def State.putAF (s : State) (r : Byte × Byte) : State := { s with regs := { s.regs with a := r.1, f := r.2 } }

/-- F written with computed flags. -/
def State.putF (s : State) (f : Byte) : State := { s with regs := { s.regs with f := f } }

/-- `ADD A,src` (R443). -/
def addA (src : Src8) (s : State) : State := (s.putAF (add8 s.regs.a (s.src8 src) false)).tick src.cost
/-- `ADC A,src` (R444). -/
def adcA (src : Src8) (s : State) : State := (s.putAF (add8 s.regs.a (s.src8 src) s.flagC)).tick src.cost
/-- `SUB A,src` (R445). -/
def subA (src : Src8) (s : State) : State := (s.putAF (sub8 s.regs.a (s.src8 src) false)).tick src.cost
/-- `SBC A,src` (R446). -/
def sbcA (src : Src8) (s : State) : State := (s.putAF (sub8 s.regs.a (s.src8 src) s.flagC)).tick src.cost
/-- `AND A,src` (R447). -/
def andA (src : Src8) (s : State) : State := (s.putAF (and8 s.regs.a (s.src8 src))).tick src.cost
/-- `XOR A,src` (R448). -/
def xorA (src : Src8) (s : State) : State := (s.putAF (xor8 s.regs.a (s.src8 src))).tick src.cost
/-- `OR A,src` (R449). -/
def orA (src : Src8) (s : State) : State := (s.putAF (or8 s.regs.a (s.src8 src))).tick src.cost
/-- `CP A,src`: flags only (R450). -/
def cpA (src : Src8) (s : State) : State := (s.putF (sub8 s.regs.a (s.src8 src) false).2).tick src.cost

/-- `INC r`, `INC (HL)`: the flags are written before the result is stored (R451, R452; assumption 7). -/
def incPlace (p : Place8) (s : State) : State :=
  (s.putF (inc8 (s.readPlace p) s.flagC).2).writePlace p (inc8 (s.readPlace p) s.flagC).1 (·.tick (p.cost 4 12))

/-- `DEC r`, `DEC (HL)` (R453, R454; assumption 7). -/
def decPlace (p : Place8) (s : State) : State :=
  (s.putF (dec8 (s.readPlace p) s.flagC).2).writePlace p (dec8 (s.readPlace p) s.flagC).1 (·.tick (p.cost 4 12))

/-- `DAA` (R455). -/
def daaA (s : State) : State := (s.putAF (daa8 s.regs.a s.flagN s.flagH s.flagC)).tick 4

/-- `CPL`: - 1 1 - (R456). -/
def cplA (s : State) : State := (s.putAF (s.regs.a ^^^ 0xFF#8, packF s.flagZ true true s.flagC)).tick 4

/-- `SCF`: - 0 0 1 (R457). -/
def setCarry (s : State) : State := (s.setFlags s.flagZ false false true).tick 4

/-- `CCF`: - 0 0 C' (R458). -/
def flipCarry (s : State) : State := (s.setFlags s.flagZ false false (!s.flagC)).tick 4

/-- `INC B` (R451). -/
def execInc_B (s : State) : Result := .next (incPlace (.reg .b) s)

/-- `DEC B` (R453). -/
def execDec_B (s : State) : Result := .next (decPlace (.reg .b) s)

/-- `INC C` (R451). -/
def execInc_C (s : State) : Result := .next (incPlace (.reg .c) s)

/-- `DEC C` (R453). -/
def execDec_C (s : State) : Result := .next (decPlace (.reg .c) s)

/-- `INC D` (R451). -/
def execInc_D (s : State) : Result := .next (incPlace (.reg .d) s)

/-- `DEC D` (R453). -/
def execDec_D (s : State) : Result := .next (decPlace (.reg .d) s)

/-- `INC E` (R451). -/
def execInc_E (s : State) : Result := .next (incPlace (.reg .e) s)

/-- `DEC E` (R453). -/
def execDec_E (s : State) : Result := .next (decPlace (.reg .e) s)

/-- `INC H` (R451). -/
def execInc_H (s : State) : Result := .next (incPlace (.reg .h) s)

/-- `DEC H` (R453). -/
def execDec_H (s : State) : Result := .next (decPlace (.reg .h) s)

/-- `DAA` (R455). -/
def execDaa (s : State) : Result := .next (daaA s)

/-- `INC L` (R451). -/
def execInc_L (s : State) : Result := .next (incPlace (.reg .l) s)

/-- `DEC L` (R453). -/
def execDec_L (s : State) : Result := .next (decPlace (.reg .l) s)

/-- `CPL` (R456). -/
def execCpl (s : State) : Result := .next (cplA s)

/-- `INC (HL)` (R452). -/
def execInc_mHL (s : State) : Result := .next (incPlace .memHL s)

/-- `DEC (HL)` (R454). -/
def execDec_mHL (s : State) : Result := .next (decPlace .memHL s)

/-- `SCF` (R457). -/
def execScf (s : State) : Result := .next (setCarry s)

/-- `INC A` (R451). -/
def execInc_A (s : State) : Result := .next (incPlace (.reg .a) s)

/-- `DEC A` (R453). -/
def execDec_A (s : State) : Result := .next (decPlace (.reg .a) s)

/-- `CCF` (R458). -/
def execCcf (s : State) : Result := .next (flipCarry s)

/-- `ADD A,B` (R443). -/
def execAdd_A_B (s : State) : Result := .next (addA (.reg .b) s)
/-- `ADD A,C` (R443). -/
def execAdd_A_C (s : State) : Result := .next (addA (.reg .c) s)
/-- `ADD A,D` (R443). -/
def execAdd_A_D (s : State) : Result := .next (addA (.reg .d) s)
/-- `ADD A,E` (R443). -/
def execAdd_A_E (s : State) : Result := .next (addA (.reg .e) s)
/-- `ADD A,H` (R443). -/
def execAdd_A_H (s : State) : Result := .next (addA (.reg .h) s)
/-- `ADD A,L` (R443). -/
def execAdd_A_L (s : State) : Result := .next (addA (.reg .l) s)
/-- `ADD A,(HL)` (R443). -/
def execAdd_A_mHL (s : State) : Result := .next (addA .memHL s)
/-- `ADD A,A` (R443). -/
def execAdd_A_A (s : State) : Result := .next (addA (.reg .a) s)

/-- `ADC A,B` (R444). -/
def execAdc_A_B (s : State) : Result := .next (adcA (.reg .b) s)
/-- `ADC A,C` (R444). -/
def execAdc_A_C (s : State) : Result := .next (adcA (.reg .c) s)
/-- `ADC A,D` (R444). -/
def execAdc_A_D (s : State) : Result := .next (adcA (.reg .d) s)
/-- `ADC A,E` (R444). -/
def execAdc_A_E (s : State) : Result := .next (adcA (.reg .e) s)
/-- `ADC A,H` (R444). -/
def execAdc_A_H (s : State) : Result := .next (adcA (.reg .h) s)
/-- `ADC A,L` (R444). -/
def execAdc_A_L (s : State) : Result := .next (adcA (.reg .l) s)
/-- `ADC A,(HL)` (R444). -/
def execAdc_A_mHL (s : State) : Result := .next (adcA .memHL s)
/-- `ADC A,A` (R444). -/
def execAdc_A_A (s : State) : Result := .next (adcA (.reg .a) s)

/-- `SUB A,B` (R445). -/
def execSub_A_B (s : State) : Result := .next (subA (.reg .b) s)
/-- `SUB A,C` (R445). -/
def execSub_A_C (s : State) : Result := .next (subA (.reg .c) s)
/-- `SUB A,D` (R445). -/
def execSub_A_D (s : State) : Result := .next (subA (.reg .d) s)
/-- `SUB A,E` (R445). -/
def execSub_A_E (s : State) : Result := .next (subA (.reg .e) s)
/-- `SUB A,H` (R445). -/
def execSub_A_H (s : State) : Result := .next (subA (.reg .h) s)
/-- `SUB A,L` (R445). -/
def execSub_A_L (s : State) : Result := .next (subA (.reg .l) s)
/-- `SUB A,(HL)` (R445). -/
def execSub_A_mHL (s : State) : Result := .next (subA .memHL s)
/-- `SUB A,A` (R445). -/
def execSub_A_A (s : State) : Result := .next (subA (.reg .a) s)

/-- `SBC A,B` (R446). -/
def execSbc_A_B (s : State) : Result := .next (sbcA (.reg .b) s)
/-- `SBC A,C` (R446). -/
def execSbc_A_C (s : State) : Result := .next (sbcA (.reg .c) s)
/-- `SBC A,D` (R446). -/
def execSbc_A_D (s : State) : Result := .next (sbcA (.reg .d) s)
/-- `SBC A,E` (R446). -/
def execSbc_A_E (s : State) : Result := .next (sbcA (.reg .e) s)
/-- `SBC A,H` (R446). -/
def execSbc_A_H (s : State) : Result := .next (sbcA (.reg .h) s)
/-- `SBC A,L` (R446). -/
def execSbc_A_L (s : State) : Result := .next (sbcA (.reg .l) s)
/-- `SBC A,(HL)` (R446). -/
def execSbc_A_mHL (s : State) : Result := .next (sbcA .memHL s)
/-- `SBC A,A` (R446). -/
def execSbc_A_A (s : State) : Result := .next (sbcA (.reg .a) s)

/-- `AND A,B` (R447). -/
def execAnd_A_B (s : State) : Result := .next (andA (.reg .b) s)
/-- `AND A,C` (R447). -/
def execAnd_A_C (s : State) : Result := .next (andA (.reg .c) s)
/-- `AND A,D` (R447). -/
def execAnd_A_D (s : State) : Result := .next (andA (.reg .d) s)
/-- `AND A,E` (R447). -/
def execAnd_A_E (s : State) : Result := .next (andA (.reg .e) s)
/-- `AND A,H` (R447). -/
def execAnd_A_H (s : State) : Result := .next (andA (.reg .h) s)
/-- `AND A,L` (R447). -/
def execAnd_A_L (s : State) : Result := .next (andA (.reg .l) s)
/-- `AND A,(HL)` (R447). -/
def execAnd_A_mHL (s : State) : Result := .next (andA .memHL s)
/-- `AND A,A` (R447). -/
def execAnd_A_A (s : State) : Result := .next (andA (.reg .a) s)

/-- `XOR A,B` (R448). -/
def execXor_A_B (s : State) : Result := .next (xorA (.reg .b) s)
/-- `XOR A,C` (R448). -/
def execXor_A_C (s : State) : Result := .next (xorA (.reg .c) s)
/-- `XOR A,D` (R448). -/
def execXor_A_D (s : State) : Result := .next (xorA (.reg .d) s)
/-- `XOR A,E` (R448). -/
def execXor_A_E (s : State) : Result := .next (xorA (.reg .e) s)
/-- `XOR A,H` (R448). -/
def execXor_A_H (s : State) : Result := .next (xorA (.reg .h) s)
/-- `XOR A,L` (R448). -/
def execXor_A_L (s : State) : Result := .next (xorA (.reg .l) s)
/-- `XOR A,(HL)` (R448). -/
def execXor_A_mHL (s : State) : Result := .next (xorA .memHL s)
/-- `XOR A,A` (R448). -/
def execXor_A_A (s : State) : Result := .next (xorA (.reg .a) s)

/-- `OR A,B` (R449). -/
def execOr_A_B (s : State) : Result := .next (orA (.reg .b) s)
/-- `OR A,C` (R449). -/
def execOr_A_C (s : State) : Result := .next (orA (.reg .c) s)
/-- `OR A,D` (R449). -/
def execOr_A_D (s : State) : Result := .next (orA (.reg .d) s)
/-- `OR A,E` (R449). -/
def execOr_A_E (s : State) : Result := .next (orA (.reg .e) s)
/-- `OR A,H` (R449). -/
def execOr_A_H (s : State) : Result := .next (orA (.reg .h) s)
/-- `OR A,L` (R449). -/
def execOr_A_L (s : State) : Result := .next (orA (.reg .l) s)
/-- `OR A,(HL)` (R449). -/
def execOr_A_mHL (s : State) : Result := .next (orA .memHL s)
/-- `OR A,A` (R449). -/
def execOr_A_A (s : State) : Result := .next (orA (.reg .a) s)

/-- `CP A,B` (R450). -/
def execCp_A_B (s : State) : Result := .next (cpA (.reg .b) s)
/-- `CP A,C` (R450). -/
def execCp_A_C (s : State) : Result := .next (cpA (.reg .c) s)
/-- `CP A,D` (R450). -/
def execCp_A_D (s : State) : Result := .next (cpA (.reg .d) s)
/-- `CP A,E` (R450). -/
def execCp_A_E (s : State) : Result := .next (cpA (.reg .e) s)
/-- `CP A,H` (R450). -/
def execCp_A_H (s : State) : Result := .next (cpA (.reg .h) s)
/-- `CP A,L` (R450). -/
def execCp_A_L (s : State) : Result := .next (cpA (.reg .l) s)
/-- `CP A,(HL)` (R450). -/
def execCp_A_mHL (s : State) : Result := .next (cpA .memHL s)
/-- `CP A,A` (R450). -/
def execCp_A_A (s : State) : Result := .next (cpA (.reg .a) s)

/-- `ADD A,n8` (R443). -/
def execAdd_A_n8 (n : Byte) (s : State) : Result := .next (addA (.imm n) s)

/-- `ADC A,n8` (R444). -/
def execAdc_A_n8 (n : Byte) (s : State) : Result := .next (adcA (.imm n) s)

/-- `SUB A,n8` (R445). -/
def execSub_A_n8 (n : Byte) (s : State) : Result := .next (subA (.imm n) s)

/-- `SBC A,n8` (R446). -/
def execSbc_A_n8 (n : Byte) (s : State) : Result := .next (sbcA (.imm n) s)

/-- `AND A,n8` (R447). -/
def execAnd_A_n8 (n : Byte) (s : State) : Result := .next (andA (.imm n) s)

/-- `XOR A,n8` (R448). -/
def execXor_A_n8 (n : Byte) (s : State) : Result := .next (xorA (.imm n) s)

/-- `OR A,n8` (R449). -/
def execOr_A_n8 (n : Byte) (s : State) : Result := .next (orA (.imm n) s)

/-- `CP A,n8` (R450). -/
def execCp_A_n8 (n : Byte) (s : State) : Result := .next (cpA (.imm n) s)

end Sys2Proof.Machine
end

