-- ==== Sys2Proof/Machine/Bits.lean ====
section
/-! DEFINITION. Rotates, shifts and bit operations (43_rotate_shift_bit.md R500-R515) and the 0xCB prefix (45_system.md R575):
the shared operations, then one meaning for each row. -/

namespace Sys2Proof.Machine

/-- RLCA, RRCA, RLA, RRA: A and 0 0 0 C (R500-R503). -/
def rotateA (f : Byte → Byte × Bool) (s : State) : State :=
  let r := f s.regs.a
  ((s.setReg8 .a r.1).setFlags false false false r.2).tick 4

/-- A rotate or shift of r[z]: the operand read once, Z 0 0 C, the result written back once (R504-R512). -/
def shiftPlace (f : Byte → Byte × Bool) (p : Place8) (s : State) : State :=
  let r := f (s.readPlace p)
  (s.setFlags (r.1 == 0) false false r.2).writePlace p r.1 (·.tick (p.cost 8 16))

/-- `RL r` takes the carry in (R507). -/
def rlPlace (p : Place8) (s : State) : State := shiftPlace (rl8 · s.flagC) p s

/-- `RR r` takes the carry in (R508). -/
def rrPlace (p : Place8) (s : State) : State := shiftPlace (rr8 · s.flagC) p s

/-- `BIT b,r`: Z 0 1 -, nothing written back (R513). -/
def bitPlace (b : Nat) (p : Place8) (s : State) : State :=
  (s.setFlags (!(s.readPlace p).getLsbD b) false true s.flagC).tick (p.cost 8 12)

/-- `RES b,r` (R514). -/
def resPlace (b : Nat) (p : Place8) (s : State) : State :=
  s.writePlace p (s.readPlace p &&& ~~~(1#8 <<< b)) (·.tick (p.cost 8 16))

/-- `SET b,r` (R515). -/
def setPlace (b : Nat) (p : Place8) (s : State) : State :=
  s.writePlace p (s.readPlace p ||| (1#8 <<< b)) (·.tick (p.cost 8 16))

/-- The rotate or shift number y of the CB table (30_encoding.md R311). -/
def cbShift (y : Nat) (p : Place8) (s : State) : State :=
  if y = 0 then shiftPlace rlc8 p s
  else if y = 1 then shiftPlace rrc8 p s
  else if y = 2 then rlPlace p s
  else if y = 3 then rrPlace p s
  else if y = 4 then shiftPlace sla8 p s
  else if y = 5 then shiftPlace sra8 p s
  else if y = 6 then shiftPlace swap8 p s
  else shiftPlace srl8 p s

/-- `execute CB[op]` by the fields x, y, z of the byte after the prefix (R302, R311, R504). -/
def cbEffect (op : Byte) (s : State) : State :=
  let x := (op >>> 6).toNat
  let y := (op >>> 3 &&& 7).toNat
  let p := place8 (op &&& 7).toNat
  if x = 0 then cbShift y p s
  else if x = 1 then bitPlace y p s
  else if x = 2 then resPlace y p s
  else setPlace y p s

/-- The prefix: fetch the second byte and execute it (R575). -/
def cbPrefixed (s : State) : State := cbEffect s.fetch8.1 s.fetch8.2

/-- `RLCA` (R500). -/
def execRlca (s : State) : Result := .next (rotateA rlc8 s)

/-- `RRCA` (R501). -/
def execRrca (s : State) : Result := .next (rotateA rrc8 s)

/-- `RLA` (R502). -/
def execRla (s : State) : Result := .next (rotateA (rl8 · s.flagC) s)

/-- `RRA` (R503). -/
def execRra (s : State) : Result := .next (rotateA (rr8 · s.flagC) s)

/-- `PREFIX CB` (R575). -/
def execCb_prefix (s : State) : Result := .next (cbPrefixed s)

/-- `RLC B` (R505). -/
def execRlc_B (s : State) : Result := .next (shiftPlace rlc8 (.reg .b) s)
/-- `RLC C` (R505). -/
def execRlc_C (s : State) : Result := .next (shiftPlace rlc8 (.reg .c) s)
/-- `RLC D` (R505). -/
def execRlc_D (s : State) : Result := .next (shiftPlace rlc8 (.reg .d) s)
/-- `RLC E` (R505). -/
def execRlc_E (s : State) : Result := .next (shiftPlace rlc8 (.reg .e) s)
/-- `RLC H` (R505). -/
def execRlc_H (s : State) : Result := .next (shiftPlace rlc8 (.reg .h) s)
/-- `RLC L` (R505). -/
def execRlc_L (s : State) : Result := .next (shiftPlace rlc8 (.reg .l) s)
/-- `RLC (HL)` (R505). -/
def execRlc_mHL (s : State) : Result := .next (shiftPlace rlc8 .memHL s)
/-- `RLC A` (R505). -/
def execRlc_A (s : State) : Result := .next (shiftPlace rlc8 (.reg .a) s)

/-- `RRC B` (R506). -/
def execRrc_B (s : State) : Result := .next (shiftPlace rrc8 (.reg .b) s)
/-- `RRC C` (R506). -/
def execRrc_C (s : State) : Result := .next (shiftPlace rrc8 (.reg .c) s)
/-- `RRC D` (R506). -/
def execRrc_D (s : State) : Result := .next (shiftPlace rrc8 (.reg .d) s)
/-- `RRC E` (R506). -/
def execRrc_E (s : State) : Result := .next (shiftPlace rrc8 (.reg .e) s)
/-- `RRC H` (R506). -/
def execRrc_H (s : State) : Result := .next (shiftPlace rrc8 (.reg .h) s)
/-- `RRC L` (R506). -/
def execRrc_L (s : State) : Result := .next (shiftPlace rrc8 (.reg .l) s)
/-- `RRC (HL)` (R506). -/
def execRrc_mHL (s : State) : Result := .next (shiftPlace rrc8 .memHL s)
/-- `RRC A` (R506). -/
def execRrc_A (s : State) : Result := .next (shiftPlace rrc8 (.reg .a) s)

/-- `RL B` (R507). -/
def execRl_B (s : State) : Result := .next (rlPlace (.reg .b) s)
/-- `RL C` (R507). -/
def execRl_C (s : State) : Result := .next (rlPlace (.reg .c) s)
/-- `RL D` (R507). -/
def execRl_D (s : State) : Result := .next (rlPlace (.reg .d) s)
/-- `RL E` (R507). -/
def execRl_E (s : State) : Result := .next (rlPlace (.reg .e) s)
/-- `RL H` (R507). -/
def execRl_H (s : State) : Result := .next (rlPlace (.reg .h) s)
/-- `RL L` (R507). -/
def execRl_L (s : State) : Result := .next (rlPlace (.reg .l) s)
/-- `RL (HL)` (R507). -/
def execRl_mHL (s : State) : Result := .next (rlPlace .memHL s)
/-- `RL A` (R507). -/
def execRl_A (s : State) : Result := .next (rlPlace (.reg .a) s)

/-- `RR B` (R508). -/
def execRr_B (s : State) : Result := .next (rrPlace (.reg .b) s)
/-- `RR C` (R508). -/
def execRr_C (s : State) : Result := .next (rrPlace (.reg .c) s)
/-- `RR D` (R508). -/
def execRr_D (s : State) : Result := .next (rrPlace (.reg .d) s)
/-- `RR E` (R508). -/
def execRr_E (s : State) : Result := .next (rrPlace (.reg .e) s)
/-- `RR H` (R508). -/
def execRr_H (s : State) : Result := .next (rrPlace (.reg .h) s)
/-- `RR L` (R508). -/
def execRr_L (s : State) : Result := .next (rrPlace (.reg .l) s)
/-- `RR (HL)` (R508). -/
def execRr_mHL (s : State) : Result := .next (rrPlace .memHL s)
/-- `RR A` (R508). -/
def execRr_A (s : State) : Result := .next (rrPlace (.reg .a) s)

/-- `SLA B` (R509). -/
def execSla_B (s : State) : Result := .next (shiftPlace sla8 (.reg .b) s)
/-- `SLA C` (R509). -/
def execSla_C (s : State) : Result := .next (shiftPlace sla8 (.reg .c) s)
/-- `SLA D` (R509). -/
def execSla_D (s : State) : Result := .next (shiftPlace sla8 (.reg .d) s)
/-- `SLA E` (R509). -/
def execSla_E (s : State) : Result := .next (shiftPlace sla8 (.reg .e) s)
/-- `SLA H` (R509). -/
def execSla_H (s : State) : Result := .next (shiftPlace sla8 (.reg .h) s)
/-- `SLA L` (R509). -/
def execSla_L (s : State) : Result := .next (shiftPlace sla8 (.reg .l) s)
/-- `SLA (HL)` (R509). -/
def execSla_mHL (s : State) : Result := .next (shiftPlace sla8 .memHL s)
/-- `SLA A` (R509). -/
def execSla_A (s : State) : Result := .next (shiftPlace sla8 (.reg .a) s)

/-- `SRA B` (R510). -/
def execSra_B (s : State) : Result := .next (shiftPlace sra8 (.reg .b) s)
/-- `SRA C` (R510). -/
def execSra_C (s : State) : Result := .next (shiftPlace sra8 (.reg .c) s)
/-- `SRA D` (R510). -/
def execSra_D (s : State) : Result := .next (shiftPlace sra8 (.reg .d) s)
/-- `SRA E` (R510). -/
def execSra_E (s : State) : Result := .next (shiftPlace sra8 (.reg .e) s)
/-- `SRA H` (R510). -/
def execSra_H (s : State) : Result := .next (shiftPlace sra8 (.reg .h) s)
/-- `SRA L` (R510). -/
def execSra_L (s : State) : Result := .next (shiftPlace sra8 (.reg .l) s)
/-- `SRA (HL)` (R510). -/
def execSra_mHL (s : State) : Result := .next (shiftPlace sra8 .memHL s)
/-- `SRA A` (R510). -/
def execSra_A (s : State) : Result := .next (shiftPlace sra8 (.reg .a) s)

/-- `SWAP B` (R511). -/
def execSwap_B (s : State) : Result := .next (shiftPlace swap8 (.reg .b) s)
/-- `SWAP C` (R511). -/
def execSwap_C (s : State) : Result := .next (shiftPlace swap8 (.reg .c) s)
/-- `SWAP D` (R511). -/
def execSwap_D (s : State) : Result := .next (shiftPlace swap8 (.reg .d) s)
/-- `SWAP E` (R511). -/
def execSwap_E (s : State) : Result := .next (shiftPlace swap8 (.reg .e) s)
/-- `SWAP H` (R511). -/
def execSwap_H (s : State) : Result := .next (shiftPlace swap8 (.reg .h) s)
/-- `SWAP L` (R511). -/
def execSwap_L (s : State) : Result := .next (shiftPlace swap8 (.reg .l) s)
/-- `SWAP (HL)` (R511). -/
def execSwap_mHL (s : State) : Result := .next (shiftPlace swap8 .memHL s)
/-- `SWAP A` (R511). -/
def execSwap_A (s : State) : Result := .next (shiftPlace swap8 (.reg .a) s)

/-- `SRL B` (R512). -/
def execSrl_B (s : State) : Result := .next (shiftPlace srl8 (.reg .b) s)
/-- `SRL C` (R512). -/
def execSrl_C (s : State) : Result := .next (shiftPlace srl8 (.reg .c) s)
/-- `SRL D` (R512). -/
def execSrl_D (s : State) : Result := .next (shiftPlace srl8 (.reg .d) s)
/-- `SRL E` (R512). -/
def execSrl_E (s : State) : Result := .next (shiftPlace srl8 (.reg .e) s)
/-- `SRL H` (R512). -/
def execSrl_H (s : State) : Result := .next (shiftPlace srl8 (.reg .h) s)
/-- `SRL L` (R512). -/
def execSrl_L (s : State) : Result := .next (shiftPlace srl8 (.reg .l) s)
/-- `SRL (HL)` (R512). -/
def execSrl_mHL (s : State) : Result := .next (shiftPlace srl8 .memHL s)
/-- `SRL A` (R512). -/
def execSrl_A (s : State) : Result := .next (shiftPlace srl8 (.reg .a) s)

/-- `BIT 0,B` (R513). -/
def execBit_0_B (s : State) : Result := .next (bitPlace 0 (.reg .b) s)
/-- `BIT 0,C` (R513). -/
def execBit_0_C (s : State) : Result := .next (bitPlace 0 (.reg .c) s)
/-- `BIT 0,D` (R513). -/
def execBit_0_D (s : State) : Result := .next (bitPlace 0 (.reg .d) s)
/-- `BIT 0,E` (R513). -/
def execBit_0_E (s : State) : Result := .next (bitPlace 0 (.reg .e) s)
/-- `BIT 0,H` (R513). -/
def execBit_0_H (s : State) : Result := .next (bitPlace 0 (.reg .h) s)
/-- `BIT 0,L` (R513). -/
def execBit_0_L (s : State) : Result := .next (bitPlace 0 (.reg .l) s)
/-- `BIT 0,(HL)` (R513). -/
def execBit_0_mHL (s : State) : Result := .next (bitPlace 0 .memHL s)
/-- `BIT 0,A` (R513). -/
def execBit_0_A (s : State) : Result := .next (bitPlace 0 (.reg .a) s)
/-- `BIT 1,B` (R513). -/
def execBit_1_B (s : State) : Result := .next (bitPlace 1 (.reg .b) s)
/-- `BIT 1,C` (R513). -/
def execBit_1_C (s : State) : Result := .next (bitPlace 1 (.reg .c) s)
/-- `BIT 1,D` (R513). -/
def execBit_1_D (s : State) : Result := .next (bitPlace 1 (.reg .d) s)
/-- `BIT 1,E` (R513). -/
def execBit_1_E (s : State) : Result := .next (bitPlace 1 (.reg .e) s)
/-- `BIT 1,H` (R513). -/
def execBit_1_H (s : State) : Result := .next (bitPlace 1 (.reg .h) s)
/-- `BIT 1,L` (R513). -/
def execBit_1_L (s : State) : Result := .next (bitPlace 1 (.reg .l) s)
/-- `BIT 1,(HL)` (R513). -/
def execBit_1_mHL (s : State) : Result := .next (bitPlace 1 .memHL s)
/-- `BIT 1,A` (R513). -/
def execBit_1_A (s : State) : Result := .next (bitPlace 1 (.reg .a) s)
/-- `BIT 2,B` (R513). -/
def execBit_2_B (s : State) : Result := .next (bitPlace 2 (.reg .b) s)
/-- `BIT 2,C` (R513). -/
def execBit_2_C (s : State) : Result := .next (bitPlace 2 (.reg .c) s)
/-- `BIT 2,D` (R513). -/
def execBit_2_D (s : State) : Result := .next (bitPlace 2 (.reg .d) s)
/-- `BIT 2,E` (R513). -/
def execBit_2_E (s : State) : Result := .next (bitPlace 2 (.reg .e) s)
/-- `BIT 2,H` (R513). -/
def execBit_2_H (s : State) : Result := .next (bitPlace 2 (.reg .h) s)
/-- `BIT 2,L` (R513). -/
def execBit_2_L (s : State) : Result := .next (bitPlace 2 (.reg .l) s)
/-- `BIT 2,(HL)` (R513). -/
def execBit_2_mHL (s : State) : Result := .next (bitPlace 2 .memHL s)
/-- `BIT 2,A` (R513). -/
def execBit_2_A (s : State) : Result := .next (bitPlace 2 (.reg .a) s)
/-- `BIT 3,B` (R513). -/
def execBit_3_B (s : State) : Result := .next (bitPlace 3 (.reg .b) s)
/-- `BIT 3,C` (R513). -/
def execBit_3_C (s : State) : Result := .next (bitPlace 3 (.reg .c) s)
/-- `BIT 3,D` (R513). -/
def execBit_3_D (s : State) : Result := .next (bitPlace 3 (.reg .d) s)
/-- `BIT 3,E` (R513). -/
def execBit_3_E (s : State) : Result := .next (bitPlace 3 (.reg .e) s)
/-- `BIT 3,H` (R513). -/
def execBit_3_H (s : State) : Result := .next (bitPlace 3 (.reg .h) s)
/-- `BIT 3,L` (R513). -/
def execBit_3_L (s : State) : Result := .next (bitPlace 3 (.reg .l) s)
/-- `BIT 3,(HL)` (R513). -/
def execBit_3_mHL (s : State) : Result := .next (bitPlace 3 .memHL s)
/-- `BIT 3,A` (R513). -/
def execBit_3_A (s : State) : Result := .next (bitPlace 3 (.reg .a) s)
/-- `BIT 4,B` (R513). -/
def execBit_4_B (s : State) : Result := .next (bitPlace 4 (.reg .b) s)
/-- `BIT 4,C` (R513). -/
def execBit_4_C (s : State) : Result := .next (bitPlace 4 (.reg .c) s)
/-- `BIT 4,D` (R513). -/
def execBit_4_D (s : State) : Result := .next (bitPlace 4 (.reg .d) s)
/-- `BIT 4,E` (R513). -/
def execBit_4_E (s : State) : Result := .next (bitPlace 4 (.reg .e) s)
/-- `BIT 4,H` (R513). -/
def execBit_4_H (s : State) : Result := .next (bitPlace 4 (.reg .h) s)
/-- `BIT 4,L` (R513). -/
def execBit_4_L (s : State) : Result := .next (bitPlace 4 (.reg .l) s)
/-- `BIT 4,(HL)` (R513). -/
def execBit_4_mHL (s : State) : Result := .next (bitPlace 4 .memHL s)
/-- `BIT 4,A` (R513). -/
def execBit_4_A (s : State) : Result := .next (bitPlace 4 (.reg .a) s)
/-- `BIT 5,B` (R513). -/
def execBit_5_B (s : State) : Result := .next (bitPlace 5 (.reg .b) s)
/-- `BIT 5,C` (R513). -/
def execBit_5_C (s : State) : Result := .next (bitPlace 5 (.reg .c) s)
/-- `BIT 5,D` (R513). -/
def execBit_5_D (s : State) : Result := .next (bitPlace 5 (.reg .d) s)
/-- `BIT 5,E` (R513). -/
def execBit_5_E (s : State) : Result := .next (bitPlace 5 (.reg .e) s)
/-- `BIT 5,H` (R513). -/
def execBit_5_H (s : State) : Result := .next (bitPlace 5 (.reg .h) s)
/-- `BIT 5,L` (R513). -/
def execBit_5_L (s : State) : Result := .next (bitPlace 5 (.reg .l) s)
/-- `BIT 5,(HL)` (R513). -/
def execBit_5_mHL (s : State) : Result := .next (bitPlace 5 .memHL s)
/-- `BIT 5,A` (R513). -/
def execBit_5_A (s : State) : Result := .next (bitPlace 5 (.reg .a) s)
/-- `BIT 6,B` (R513). -/
def execBit_6_B (s : State) : Result := .next (bitPlace 6 (.reg .b) s)
/-- `BIT 6,C` (R513). -/
def execBit_6_C (s : State) : Result := .next (bitPlace 6 (.reg .c) s)
/-- `BIT 6,D` (R513). -/
def execBit_6_D (s : State) : Result := .next (bitPlace 6 (.reg .d) s)
/-- `BIT 6,E` (R513). -/
def execBit_6_E (s : State) : Result := .next (bitPlace 6 (.reg .e) s)
/-- `BIT 6,H` (R513). -/
def execBit_6_H (s : State) : Result := .next (bitPlace 6 (.reg .h) s)
/-- `BIT 6,L` (R513). -/
def execBit_6_L (s : State) : Result := .next (bitPlace 6 (.reg .l) s)
/-- `BIT 6,(HL)` (R513). -/
def execBit_6_mHL (s : State) : Result := .next (bitPlace 6 .memHL s)
/-- `BIT 6,A` (R513). -/
def execBit_6_A (s : State) : Result := .next (bitPlace 6 (.reg .a) s)
/-- `BIT 7,B` (R513). -/
def execBit_7_B (s : State) : Result := .next (bitPlace 7 (.reg .b) s)
/-- `BIT 7,C` (R513). -/
def execBit_7_C (s : State) : Result := .next (bitPlace 7 (.reg .c) s)
/-- `BIT 7,D` (R513). -/
def execBit_7_D (s : State) : Result := .next (bitPlace 7 (.reg .d) s)
/-- `BIT 7,E` (R513). -/
def execBit_7_E (s : State) : Result := .next (bitPlace 7 (.reg .e) s)
/-- `BIT 7,H` (R513). -/
def execBit_7_H (s : State) : Result := .next (bitPlace 7 (.reg .h) s)
/-- `BIT 7,L` (R513). -/
def execBit_7_L (s : State) : Result := .next (bitPlace 7 (.reg .l) s)
/-- `BIT 7,(HL)` (R513). -/
def execBit_7_mHL (s : State) : Result := .next (bitPlace 7 .memHL s)
/-- `BIT 7,A` (R513). -/
def execBit_7_A (s : State) : Result := .next (bitPlace 7 (.reg .a) s)

/-- `RES 0,B` (R514). -/
def execRes_0_B (s : State) : Result := .next (resPlace 0 (.reg .b) s)
/-- `RES 0,C` (R514). -/
def execRes_0_C (s : State) : Result := .next (resPlace 0 (.reg .c) s)
/-- `RES 0,D` (R514). -/
def execRes_0_D (s : State) : Result := .next (resPlace 0 (.reg .d) s)
/-- `RES 0,E` (R514). -/
def execRes_0_E (s : State) : Result := .next (resPlace 0 (.reg .e) s)
/-- `RES 0,H` (R514). -/
def execRes_0_H (s : State) : Result := .next (resPlace 0 (.reg .h) s)
/-- `RES 0,L` (R514). -/
def execRes_0_L (s : State) : Result := .next (resPlace 0 (.reg .l) s)
/-- `RES 0,(HL)` (R514). -/
def execRes_0_mHL (s : State) : Result := .next (resPlace 0 .memHL s)
/-- `RES 0,A` (R514). -/
def execRes_0_A (s : State) : Result := .next (resPlace 0 (.reg .a) s)
/-- `RES 1,B` (R514). -/
def execRes_1_B (s : State) : Result := .next (resPlace 1 (.reg .b) s)
/-- `RES 1,C` (R514). -/
def execRes_1_C (s : State) : Result := .next (resPlace 1 (.reg .c) s)
/-- `RES 1,D` (R514). -/
def execRes_1_D (s : State) : Result := .next (resPlace 1 (.reg .d) s)
/-- `RES 1,E` (R514). -/
def execRes_1_E (s : State) : Result := .next (resPlace 1 (.reg .e) s)
/-- `RES 1,H` (R514). -/
def execRes_1_H (s : State) : Result := .next (resPlace 1 (.reg .h) s)
/-- `RES 1,L` (R514). -/
def execRes_1_L (s : State) : Result := .next (resPlace 1 (.reg .l) s)
/-- `RES 1,(HL)` (R514). -/
def execRes_1_mHL (s : State) : Result := .next (resPlace 1 .memHL s)
/-- `RES 1,A` (R514). -/
def execRes_1_A (s : State) : Result := .next (resPlace 1 (.reg .a) s)
/-- `RES 2,B` (R514). -/
def execRes_2_B (s : State) : Result := .next (resPlace 2 (.reg .b) s)
/-- `RES 2,C` (R514). -/
def execRes_2_C (s : State) : Result := .next (resPlace 2 (.reg .c) s)
/-- `RES 2,D` (R514). -/
def execRes_2_D (s : State) : Result := .next (resPlace 2 (.reg .d) s)
/-- `RES 2,E` (R514). -/
def execRes_2_E (s : State) : Result := .next (resPlace 2 (.reg .e) s)
/-- `RES 2,H` (R514). -/
def execRes_2_H (s : State) : Result := .next (resPlace 2 (.reg .h) s)
/-- `RES 2,L` (R514). -/
def execRes_2_L (s : State) : Result := .next (resPlace 2 (.reg .l) s)
/-- `RES 2,(HL)` (R514). -/
def execRes_2_mHL (s : State) : Result := .next (resPlace 2 .memHL s)
/-- `RES 2,A` (R514). -/
def execRes_2_A (s : State) : Result := .next (resPlace 2 (.reg .a) s)
/-- `RES 3,B` (R514). -/
def execRes_3_B (s : State) : Result := .next (resPlace 3 (.reg .b) s)
/-- `RES 3,C` (R514). -/
def execRes_3_C (s : State) : Result := .next (resPlace 3 (.reg .c) s)
/-- `RES 3,D` (R514). -/
def execRes_3_D (s : State) : Result := .next (resPlace 3 (.reg .d) s)
/-- `RES 3,E` (R514). -/
def execRes_3_E (s : State) : Result := .next (resPlace 3 (.reg .e) s)
/-- `RES 3,H` (R514). -/
def execRes_3_H (s : State) : Result := .next (resPlace 3 (.reg .h) s)
/-- `RES 3,L` (R514). -/
def execRes_3_L (s : State) : Result := .next (resPlace 3 (.reg .l) s)
/-- `RES 3,(HL)` (R514). -/
def execRes_3_mHL (s : State) : Result := .next (resPlace 3 .memHL s)
/-- `RES 3,A` (R514). -/
def execRes_3_A (s : State) : Result := .next (resPlace 3 (.reg .a) s)
/-- `RES 4,B` (R514). -/
def execRes_4_B (s : State) : Result := .next (resPlace 4 (.reg .b) s)
/-- `RES 4,C` (R514). -/
def execRes_4_C (s : State) : Result := .next (resPlace 4 (.reg .c) s)
/-- `RES 4,D` (R514). -/
def execRes_4_D (s : State) : Result := .next (resPlace 4 (.reg .d) s)
/-- `RES 4,E` (R514). -/
def execRes_4_E (s : State) : Result := .next (resPlace 4 (.reg .e) s)
/-- `RES 4,H` (R514). -/
def execRes_4_H (s : State) : Result := .next (resPlace 4 (.reg .h) s)
/-- `RES 4,L` (R514). -/
def execRes_4_L (s : State) : Result := .next (resPlace 4 (.reg .l) s)
/-- `RES 4,(HL)` (R514). -/
def execRes_4_mHL (s : State) : Result := .next (resPlace 4 .memHL s)
/-- `RES 4,A` (R514). -/
def execRes_4_A (s : State) : Result := .next (resPlace 4 (.reg .a) s)
/-- `RES 5,B` (R514). -/
def execRes_5_B (s : State) : Result := .next (resPlace 5 (.reg .b) s)
/-- `RES 5,C` (R514). -/
def execRes_5_C (s : State) : Result := .next (resPlace 5 (.reg .c) s)
/-- `RES 5,D` (R514). -/
def execRes_5_D (s : State) : Result := .next (resPlace 5 (.reg .d) s)
/-- `RES 5,E` (R514). -/
def execRes_5_E (s : State) : Result := .next (resPlace 5 (.reg .e) s)
/-- `RES 5,H` (R514). -/
def execRes_5_H (s : State) : Result := .next (resPlace 5 (.reg .h) s)
/-- `RES 5,L` (R514). -/
def execRes_5_L (s : State) : Result := .next (resPlace 5 (.reg .l) s)
/-- `RES 5,(HL)` (R514). -/
def execRes_5_mHL (s : State) : Result := .next (resPlace 5 .memHL s)
/-- `RES 5,A` (R514). -/
def execRes_5_A (s : State) : Result := .next (resPlace 5 (.reg .a) s)
/-- `RES 6,B` (R514). -/
def execRes_6_B (s : State) : Result := .next (resPlace 6 (.reg .b) s)
/-- `RES 6,C` (R514). -/
def execRes_6_C (s : State) : Result := .next (resPlace 6 (.reg .c) s)
/-- `RES 6,D` (R514). -/
def execRes_6_D (s : State) : Result := .next (resPlace 6 (.reg .d) s)
/-- `RES 6,E` (R514). -/
def execRes_6_E (s : State) : Result := .next (resPlace 6 (.reg .e) s)
/-- `RES 6,H` (R514). -/
def execRes_6_H (s : State) : Result := .next (resPlace 6 (.reg .h) s)
/-- `RES 6,L` (R514). -/
def execRes_6_L (s : State) : Result := .next (resPlace 6 (.reg .l) s)
/-- `RES 6,(HL)` (R514). -/
def execRes_6_mHL (s : State) : Result := .next (resPlace 6 .memHL s)
/-- `RES 6,A` (R514). -/
def execRes_6_A (s : State) : Result := .next (resPlace 6 (.reg .a) s)
/-- `RES 7,B` (R514). -/
def execRes_7_B (s : State) : Result := .next (resPlace 7 (.reg .b) s)
/-- `RES 7,C` (R514). -/
def execRes_7_C (s : State) : Result := .next (resPlace 7 (.reg .c) s)
/-- `RES 7,D` (R514). -/
def execRes_7_D (s : State) : Result := .next (resPlace 7 (.reg .d) s)
/-- `RES 7,E` (R514). -/
def execRes_7_E (s : State) : Result := .next (resPlace 7 (.reg .e) s)
/-- `RES 7,H` (R514). -/
def execRes_7_H (s : State) : Result := .next (resPlace 7 (.reg .h) s)
/-- `RES 7,L` (R514). -/
def execRes_7_L (s : State) : Result := .next (resPlace 7 (.reg .l) s)
/-- `RES 7,(HL)` (R514). -/
def execRes_7_mHL (s : State) : Result := .next (resPlace 7 .memHL s)
/-- `RES 7,A` (R514). -/
def execRes_7_A (s : State) : Result := .next (resPlace 7 (.reg .a) s)

/-- `SET 0,B` (R515). -/
def execSet_0_B (s : State) : Result := .next (setPlace 0 (.reg .b) s)
/-- `SET 0,C` (R515). -/
def execSet_0_C (s : State) : Result := .next (setPlace 0 (.reg .c) s)
/-- `SET 0,D` (R515). -/
def execSet_0_D (s : State) : Result := .next (setPlace 0 (.reg .d) s)
/-- `SET 0,E` (R515). -/
def execSet_0_E (s : State) : Result := .next (setPlace 0 (.reg .e) s)
/-- `SET 0,H` (R515). -/
def execSet_0_H (s : State) : Result := .next (setPlace 0 (.reg .h) s)
/-- `SET 0,L` (R515). -/
def execSet_0_L (s : State) : Result := .next (setPlace 0 (.reg .l) s)
/-- `SET 0,(HL)` (R515). -/
def execSet_0_mHL (s : State) : Result := .next (setPlace 0 .memHL s)
/-- `SET 0,A` (R515). -/
def execSet_0_A (s : State) : Result := .next (setPlace 0 (.reg .a) s)
/-- `SET 1,B` (R515). -/
def execSet_1_B (s : State) : Result := .next (setPlace 1 (.reg .b) s)
/-- `SET 1,C` (R515). -/
def execSet_1_C (s : State) : Result := .next (setPlace 1 (.reg .c) s)
/-- `SET 1,D` (R515). -/
def execSet_1_D (s : State) : Result := .next (setPlace 1 (.reg .d) s)
/-- `SET 1,E` (R515). -/
def execSet_1_E (s : State) : Result := .next (setPlace 1 (.reg .e) s)
/-- `SET 1,H` (R515). -/
def execSet_1_H (s : State) : Result := .next (setPlace 1 (.reg .h) s)
/-- `SET 1,L` (R515). -/
def execSet_1_L (s : State) : Result := .next (setPlace 1 (.reg .l) s)
/-- `SET 1,(HL)` (R515). -/
def execSet_1_mHL (s : State) : Result := .next (setPlace 1 .memHL s)
/-- `SET 1,A` (R515). -/
def execSet_1_A (s : State) : Result := .next (setPlace 1 (.reg .a) s)
/-- `SET 2,B` (R515). -/
def execSet_2_B (s : State) : Result := .next (setPlace 2 (.reg .b) s)
/-- `SET 2,C` (R515). -/
def execSet_2_C (s : State) : Result := .next (setPlace 2 (.reg .c) s)
/-- `SET 2,D` (R515). -/
def execSet_2_D (s : State) : Result := .next (setPlace 2 (.reg .d) s)
/-- `SET 2,E` (R515). -/
def execSet_2_E (s : State) : Result := .next (setPlace 2 (.reg .e) s)
/-- `SET 2,H` (R515). -/
def execSet_2_H (s : State) : Result := .next (setPlace 2 (.reg .h) s)
/-- `SET 2,L` (R515). -/
def execSet_2_L (s : State) : Result := .next (setPlace 2 (.reg .l) s)
/-- `SET 2,(HL)` (R515). -/
def execSet_2_mHL (s : State) : Result := .next (setPlace 2 .memHL s)
/-- `SET 2,A` (R515). -/
def execSet_2_A (s : State) : Result := .next (setPlace 2 (.reg .a) s)
/-- `SET 3,B` (R515). -/
def execSet_3_B (s : State) : Result := .next (setPlace 3 (.reg .b) s)
/-- `SET 3,C` (R515). -/
def execSet_3_C (s : State) : Result := .next (setPlace 3 (.reg .c) s)
/-- `SET 3,D` (R515). -/
def execSet_3_D (s : State) : Result := .next (setPlace 3 (.reg .d) s)
/-- `SET 3,E` (R515). -/
def execSet_3_E (s : State) : Result := .next (setPlace 3 (.reg .e) s)
/-- `SET 3,H` (R515). -/
def execSet_3_H (s : State) : Result := .next (setPlace 3 (.reg .h) s)
/-- `SET 3,L` (R515). -/
def execSet_3_L (s : State) : Result := .next (setPlace 3 (.reg .l) s)
/-- `SET 3,(HL)` (R515). -/
def execSet_3_mHL (s : State) : Result := .next (setPlace 3 .memHL s)
/-- `SET 3,A` (R515). -/
def execSet_3_A (s : State) : Result := .next (setPlace 3 (.reg .a) s)
/-- `SET 4,B` (R515). -/
def execSet_4_B (s : State) : Result := .next (setPlace 4 (.reg .b) s)
/-- `SET 4,C` (R515). -/
def execSet_4_C (s : State) : Result := .next (setPlace 4 (.reg .c) s)
/-- `SET 4,D` (R515). -/
def execSet_4_D (s : State) : Result := .next (setPlace 4 (.reg .d) s)
/-- `SET 4,E` (R515). -/
def execSet_4_E (s : State) : Result := .next (setPlace 4 (.reg .e) s)
/-- `SET 4,H` (R515). -/
def execSet_4_H (s : State) : Result := .next (setPlace 4 (.reg .h) s)
/-- `SET 4,L` (R515). -/
def execSet_4_L (s : State) : Result := .next (setPlace 4 (.reg .l) s)
/-- `SET 4,(HL)` (R515). -/
def execSet_4_mHL (s : State) : Result := .next (setPlace 4 .memHL s)
/-- `SET 4,A` (R515). -/
def execSet_4_A (s : State) : Result := .next (setPlace 4 (.reg .a) s)
/-- `SET 5,B` (R515). -/
def execSet_5_B (s : State) : Result := .next (setPlace 5 (.reg .b) s)
/-- `SET 5,C` (R515). -/
def execSet_5_C (s : State) : Result := .next (setPlace 5 (.reg .c) s)
/-- `SET 5,D` (R515). -/
def execSet_5_D (s : State) : Result := .next (setPlace 5 (.reg .d) s)
/-- `SET 5,E` (R515). -/
def execSet_5_E (s : State) : Result := .next (setPlace 5 (.reg .e) s)
/-- `SET 5,H` (R515). -/
def execSet_5_H (s : State) : Result := .next (setPlace 5 (.reg .h) s)
/-- `SET 5,L` (R515). -/
def execSet_5_L (s : State) : Result := .next (setPlace 5 (.reg .l) s)
/-- `SET 5,(HL)` (R515). -/
def execSet_5_mHL (s : State) : Result := .next (setPlace 5 .memHL s)
/-- `SET 5,A` (R515). -/
def execSet_5_A (s : State) : Result := .next (setPlace 5 (.reg .a) s)
/-- `SET 6,B` (R515). -/
def execSet_6_B (s : State) : Result := .next (setPlace 6 (.reg .b) s)
/-- `SET 6,C` (R515). -/
def execSet_6_C (s : State) : Result := .next (setPlace 6 (.reg .c) s)
/-- `SET 6,D` (R515). -/
def execSet_6_D (s : State) : Result := .next (setPlace 6 (.reg .d) s)
/-- `SET 6,E` (R515). -/
def execSet_6_E (s : State) : Result := .next (setPlace 6 (.reg .e) s)
/-- `SET 6,H` (R515). -/
def execSet_6_H (s : State) : Result := .next (setPlace 6 (.reg .h) s)
/-- `SET 6,L` (R515). -/
def execSet_6_L (s : State) : Result := .next (setPlace 6 (.reg .l) s)
/-- `SET 6,(HL)` (R515). -/
def execSet_6_mHL (s : State) : Result := .next (setPlace 6 .memHL s)
/-- `SET 6,A` (R515). -/
def execSet_6_A (s : State) : Result := .next (setPlace 6 (.reg .a) s)
/-- `SET 7,B` (R515). -/
def execSet_7_B (s : State) : Result := .next (setPlace 7 (.reg .b) s)
/-- `SET 7,C` (R515). -/
def execSet_7_C (s : State) : Result := .next (setPlace 7 (.reg .c) s)
/-- `SET 7,D` (R515). -/
def execSet_7_D (s : State) : Result := .next (setPlace 7 (.reg .d) s)
/-- `SET 7,E` (R515). -/
def execSet_7_E (s : State) : Result := .next (setPlace 7 (.reg .e) s)
/-- `SET 7,H` (R515). -/
def execSet_7_H (s : State) : Result := .next (setPlace 7 (.reg .h) s)
/-- `SET 7,L` (R515). -/
def execSet_7_L (s : State) : Result := .next (setPlace 7 (.reg .l) s)
/-- `SET 7,(HL)` (R515). -/
def execSet_7_mHL (s : State) : Result := .next (setPlace 7 .memHL s)
/-- `SET 7,A` (R515). -/
def execSet_7_A (s : State) : Result := .next (setPlace 7 (.reg .a) s)

end Sys2Proof.Machine
end

