-- ==== Sys2Proof/Machine/Control.lean ====
section
/-! DEFINITION. Control transfer (44_control.md R540-R552): the shared operations, then one meaning for each row. PC is already
the address of the following instruction; no flag is written. -/

namespace Sys2Proof.Machine

/-- `JP n16` (R541). -/
def jp (nn : Word) (s : State) : State := (s.jump nn).tick 16

/-- `JP cc,n16` (R542). -/
def jpIf (cc : Cond) (nn : Word) (s : State) : State := bif s.cond cc then (s.jump nn).tick 16 else s.tick 12

/-- `JP HL` (R543). -/
def jpHL (s : State) : State := (s.jump s.hl).tick 4

/-- `JR e8` (R544). -/
def jr (e : Byte) (s : State) : State := (s.jump (s.pc + sext16 e)).tick 12

/-- `JR cc,e8` (R545). -/
def jrIf (cc : Cond) (e : Byte) (s : State) : State := bif s.cond cc then jr e s else s.tick 8

/-- `CALL n16` (R546). -/
def call (nn : Word) (s : State) : State := s.push16 s.pc fun s1 => (s1.jump nn).tick 24

/-- `CALL cc,n16` (R547). -/
def callIf (cc : Cond) (nn : Word) (s : State) : State := bif s.cond cc then call nn s else s.tick 12

/-- `RET` (R548). -/
def ret (s : State) : State := s.popPC.tick 16

/-- `RET cc` (R549). -/
def retIf (cc : Cond) (s : State) : State := bif s.cond cc then s.popPC.tick 20 else s.tick 8

/-- `RETI` (R550). -/
def reti (s : State) : State := s.returnFromInterrupt.tick 16

/-- `RST t` (R551). -/
def rst (t : Word) (s : State) : State := s.push16 s.pc fun s1 => (s1.jump t).tick 16

/-- `JR e8` (R544). -/
def execJr_e8 (e : Byte) (s : State) : Result := .next (jr e s)

/-- `JR NZ,e8` (R545). -/
def execJr_NZ_e8 (e : Byte) (s : State) : Result := .next (jrIf .nz e s)
/-- `JR Z,e8` (R545). -/
def execJr_Z_e8 (e : Byte) (s : State) : Result := .next (jrIf .z e s)
/-- `JR NC,e8` (R545). -/
def execJr_NC_e8 (e : Byte) (s : State) : Result := .next (jrIf .nc e s)
/-- `JR C,e8` (R545). -/
def execJr_C_e8 (e : Byte) (s : State) : Result := .next (jrIf .c e s)

/-- `RET NZ` (R549). -/
def execRet_NZ (s : State) : Result := .next (retIf .nz s)

/-- `JP NZ,n16` (R542). -/
def execJp_NZ_n16 (nn : Word) (s : State) : Result := .next (jpIf .nz nn s)

/-- `JP n16` (R541). -/
def execJp_n16 (nn : Word) (s : State) : Result := .next (jp nn s)

/-- `CALL NZ,n16` (R547). -/
def execCall_NZ_n16 (nn : Word) (s : State) : Result := .next (callIf .nz nn s)

/-- `RST 0x00` (R551). -/
def execRst_00 (s : State) : Result := .next (rst 0x00 s)

/-- `RET Z` (R549). -/
def execRet_Z (s : State) : Result := .next (retIf .z s)

/-- `RET` (R548). -/
def execRet (s : State) : Result := .next (ret s)

/-- `JP Z,n16` (R542). -/
def execJp_Z_n16 (nn : Word) (s : State) : Result := .next (jpIf .z nn s)

/-- `CALL Z,n16` (R547). -/
def execCall_Z_n16 (nn : Word) (s : State) : Result := .next (callIf .z nn s)

/-- `CALL n16` (R546). -/
def execCall_n16 (nn : Word) (s : State) : Result := .next (call nn s)

/-- `RST 0x08` (R551). -/
def execRst_08 (s : State) : Result := .next (rst 0x08 s)

/-- `RET NC` (R549). -/
def execRet_NC (s : State) : Result := .next (retIf .nc s)

/-- `JP NC,n16` (R542). -/
def execJp_NC_n16 (nn : Word) (s : State) : Result := .next (jpIf .nc nn s)

/-- `CALL NC,n16` (R547). -/
def execCall_NC_n16 (nn : Word) (s : State) : Result := .next (callIf .nc nn s)

/-- `RST 0x10` (R551). -/
def execRst_10 (s : State) : Result := .next (rst 0x10 s)

/-- `RET C` (R549). -/
def execRet_C (s : State) : Result := .next (retIf .c s)

/-- `RETI` (R550). -/
def execReti (s : State) : Result := .next (reti s)

/-- `JP C,n16` (R542). -/
def execJp_C_n16 (nn : Word) (s : State) : Result := .next (jpIf .c nn s)

/-- `CALL C,n16` (R547). -/
def execCall_C_n16 (nn : Word) (s : State) : Result := .next (callIf .c nn s)

/-- `RST 0x18` (R551). -/
def execRst_18 (s : State) : Result := .next (rst 0x18 s)
/-- `RST 0x20` (R551). -/
def execRst_20 (s : State) : Result := .next (rst 0x20 s)

/-- `JP HL` (R543). -/
def execJp_HL (s : State) : Result := .next (jpHL s)

/-- `RST 0x28` (R551). -/
def execRst_28 (s : State) : Result := .next (rst 0x28 s)
/-- `RST 0x30` (R551). -/
def execRst_30 (s : State) : Result := .next (rst 0x30 s)
/-- `RST 0x38` (R551). -/
def execRst_38 (s : State) : Result := .next (rst 0x38 s)

end Sys2Proof.Machine
end

