-- ==== Sys2Proof/Machine/Loads.lean ====
section
/-! DEFINITION. Loads, stores and stack instructions (40_loads.md R400-R424): the shared operations, then one meaning for each
row. No flag is written but by POP AF. In every meaning PC is already past the bytes the decoder took. -/

namespace Sys2Proof.Machine

/-- `LD r,r'` (R400). -/
def ldRegReg (dst r : Reg8) (s : State) : State := (s.setReg8 dst (s.reg8 r)).tick 4

/-- `LD r,n8` (R401). -/
def ldRegImm (dst : Reg8) (n : Byte) (s : State) : State := (s.setReg8 dst n).tick 8

/-- `LD r,(HL)`: the address is formed before HL's half is overwritten (R402). -/
def ldRegMem (dst : Reg8) (s : State) : State := (s.setReg8 dst (s.read s.hl)).tick 8

/-- `LD (HL),r` (R403). -/
def ldMemReg (r : Reg8) (s : State) : State := s.memWrite s.hl (s.reg8 r) (·.tick 8)

/-- `LD (HL),n8` (R404). -/
def ldMemImm (n : Byte) (s : State) : State := s.memWrite s.hl n (·.tick 12)

/-- A <- the byte at an address, at a cost (R405, R406, R409, R411, R413). -/
def ldAFrom (a : Word) (cost : Nat) (s : State) : State := (s.setReg8 .a (s.read a)).tick cost

/-- Store A at an address, at a cost (R407, R408, R410, R412, R414). -/
def stATo (a : Word) (cost : Nat) (s : State) : State := s.memWrite a s.regs.a (·.tick cost)

/-- Store A at HL, then HL <- HL + delta (R415, R416). -/
def stAThenStep (delta : Word) (s : State) : State :=
  s.memWrite s.hl s.regs.a fun s1 => (s1.setHL (s.hl + delta)).tick 8

/-- Load A from HL, then HL <- HL + delta (R417, R418). -/
def ldAThenStep (delta : Word) (s : State) : State := ((s.setReg8 .a (s.read s.hl)).setHL (s.hl + delta)).tick 8

/-- `LD rr,n16` (R419). -/
def ldPairImm (p : Pair) (nn : Word) (s : State) : State := (s.setPair p nn).tick 12

/-- `LD (n16),SP`: the low byte first; the second address wraps (R420). -/
def stSP (nn : Word) (s : State) : State :=
  s.memWrite nn (lo8 s.sp) fun s1 => s1.memWrite (nn + 1) (hi8 s1.sp) (·.tick 20)

/-- `LD SP,HL` (R421). -/
def ldSPHL (s : State) : State := (s.setSP s.hl).tick 8

/-- `PUSH rr` (R422). -/
def push (p : StackPair) (s : State) : State := s.push16 (s.stackPair p) (·.tick 16)

/-- `POP rr`, AF included (R423, R424). -/
def pop (p : StackPair) (s : State) : State := (s.pop16.2.setStackPair p s.pop16.1).tick 12

/-- `LD BC,n16` (R419). -/
def execLd_BC_n16 (nn : Word) (s : State) : Result := .next (ldPairImm .bc nn s)

/-- `LD (BC),A` (R407). -/
def execLd_mBC_A (s : State) : Result := .next (stATo s.bc 8 s)

/-- `LD B,n8` (R401). -/
def execLd_B_n8 (n : Byte) (s : State) : Result := .next (ldRegImm .b n s)

/-- `LD (n16),SP` (R420). -/
def execLd_mN16_SP (nn : Word) (s : State) : Result := .next (stSP nn s)

/-- `LD A,(BC)` (R405). -/
def execLd_A_mBC (s : State) : Result := .next (ldAFrom s.bc 8 s)

/-- `LD C,n8` (R401). -/
def execLd_C_n8 (n : Byte) (s : State) : Result := .next (ldRegImm .c n s)

/-- `LD DE,n16` (R419). -/
def execLd_DE_n16 (nn : Word) (s : State) : Result := .next (ldPairImm .de nn s)

/-- `LD (DE),A` (R408). -/
def execLd_mDE_A (s : State) : Result := .next (stATo s.de 8 s)

/-- `LD D,n8` (R401). -/
def execLd_D_n8 (n : Byte) (s : State) : Result := .next (ldRegImm .d n s)

/-- `LD A,(DE)` (R406). -/
def execLd_A_mDE (s : State) : Result := .next (ldAFrom s.de 8 s)

/-- `LD E,n8` (R401). -/
def execLd_E_n8 (n : Byte) (s : State) : Result := .next (ldRegImm .e n s)

/-- `LD HL,n16` (R419). -/
def execLd_HL_n16 (nn : Word) (s : State) : Result := .next (ldPairImm .hl nn s)

/-- `LD (HL+),A` (R415). -/
def execLd_mHLinc_A (s : State) : Result := .next (stAThenStep 1 s)

/-- `LD H,n8` (R401). -/
def execLd_H_n8 (n : Byte) (s : State) : Result := .next (ldRegImm .h n s)

/-- `LD A,(HL+)` (R417). -/
def execLd_A_mHLinc (s : State) : Result := .next (ldAThenStep 1 s)

/-- `LD L,n8` (R401). -/
def execLd_L_n8 (n : Byte) (s : State) : Result := .next (ldRegImm .l n s)

/-- `LD SP,n16` (R419). -/
def execLd_SP_n16 (nn : Word) (s : State) : Result := .next (ldPairImm .sp nn s)

/-- `LD (HL-),A` (R416). -/
def execLd_mHLdec_A (s : State) : Result := .next (stAThenStep (-1) s)

/-- `LD (HL),n8` (R404). -/
def execLd_mHL_n8 (n : Byte) (s : State) : Result := .next (ldMemImm n s)

/-- `LD A,(HL-)` (R418). -/
def execLd_A_mHLdec (s : State) : Result := .next (ldAThenStep (-1) s)

/-- `LD A,n8` (R401). -/
def execLd_A_n8 (n : Byte) (s : State) : Result := .next (ldRegImm .a n s)

/-- `LD B,B` (R400). -/
def execLd_B_B (s : State) : Result := .next (ldRegReg .b .b s)
/-- `LD B,C` (R400). -/
def execLd_B_C (s : State) : Result := .next (ldRegReg .b .c s)
/-- `LD B,D` (R400). -/
def execLd_B_D (s : State) : Result := .next (ldRegReg .b .d s)
/-- `LD B,E` (R400). -/
def execLd_B_E (s : State) : Result := .next (ldRegReg .b .e s)
/-- `LD B,H` (R400). -/
def execLd_B_H (s : State) : Result := .next (ldRegReg .b .h s)
/-- `LD B,L` (R400). -/
def execLd_B_L (s : State) : Result := .next (ldRegReg .b .l s)

/-- `LD B,(HL)` (R402). -/
def execLd_B_mHL (s : State) : Result := .next (ldRegMem .b s)

/-- `LD B,A` (R400). -/
def execLd_B_A (s : State) : Result := .next (ldRegReg .b .a s)
/-- `LD C,B` (R400). -/
def execLd_C_B (s : State) : Result := .next (ldRegReg .c .b s)
/-- `LD C,C` (R400). -/
def execLd_C_C (s : State) : Result := .next (ldRegReg .c .c s)
/-- `LD C,D` (R400). -/
def execLd_C_D (s : State) : Result := .next (ldRegReg .c .d s)
/-- `LD C,E` (R400). -/
def execLd_C_E (s : State) : Result := .next (ldRegReg .c .e s)
/-- `LD C,H` (R400). -/
def execLd_C_H (s : State) : Result := .next (ldRegReg .c .h s)
/-- `LD C,L` (R400). -/
def execLd_C_L (s : State) : Result := .next (ldRegReg .c .l s)

/-- `LD C,(HL)` (R402). -/
def execLd_C_mHL (s : State) : Result := .next (ldRegMem .c s)

/-- `LD C,A` (R400). -/
def execLd_C_A (s : State) : Result := .next (ldRegReg .c .a s)
/-- `LD D,B` (R400). -/
def execLd_D_B (s : State) : Result := .next (ldRegReg .d .b s)
/-- `LD D,C` (R400). -/
def execLd_D_C (s : State) : Result := .next (ldRegReg .d .c s)
/-- `LD D,D` (R400). -/
def execLd_D_D (s : State) : Result := .next (ldRegReg .d .d s)
/-- `LD D,E` (R400). -/
def execLd_D_E (s : State) : Result := .next (ldRegReg .d .e s)
/-- `LD D,H` (R400). -/
def execLd_D_H (s : State) : Result := .next (ldRegReg .d .h s)
/-- `LD D,L` (R400). -/
def execLd_D_L (s : State) : Result := .next (ldRegReg .d .l s)

/-- `LD D,(HL)` (R402). -/
def execLd_D_mHL (s : State) : Result := .next (ldRegMem .d s)

/-- `LD D,A` (R400). -/
def execLd_D_A (s : State) : Result := .next (ldRegReg .d .a s)
/-- `LD E,B` (R400). -/
def execLd_E_B (s : State) : Result := .next (ldRegReg .e .b s)
/-- `LD E,C` (R400). -/
def execLd_E_C (s : State) : Result := .next (ldRegReg .e .c s)
/-- `LD E,D` (R400). -/
def execLd_E_D (s : State) : Result := .next (ldRegReg .e .d s)
/-- `LD E,E` (R400). -/
def execLd_E_E (s : State) : Result := .next (ldRegReg .e .e s)
/-- `LD E,H` (R400). -/
def execLd_E_H (s : State) : Result := .next (ldRegReg .e .h s)
/-- `LD E,L` (R400). -/
def execLd_E_L (s : State) : Result := .next (ldRegReg .e .l s)

/-- `LD E,(HL)` (R402). -/
def execLd_E_mHL (s : State) : Result := .next (ldRegMem .e s)

/-- `LD E,A` (R400). -/
def execLd_E_A (s : State) : Result := .next (ldRegReg .e .a s)
/-- `LD H,B` (R400). -/
def execLd_H_B (s : State) : Result := .next (ldRegReg .h .b s)
/-- `LD H,C` (R400). -/
def execLd_H_C (s : State) : Result := .next (ldRegReg .h .c s)
/-- `LD H,D` (R400). -/
def execLd_H_D (s : State) : Result := .next (ldRegReg .h .d s)
/-- `LD H,E` (R400). -/
def execLd_H_E (s : State) : Result := .next (ldRegReg .h .e s)
/-- `LD H,H` (R400). -/
def execLd_H_H (s : State) : Result := .next (ldRegReg .h .h s)
/-- `LD H,L` (R400). -/
def execLd_H_L (s : State) : Result := .next (ldRegReg .h .l s)

/-- `LD H,(HL)` (R402). -/
def execLd_H_mHL (s : State) : Result := .next (ldRegMem .h s)

/-- `LD H,A` (R400). -/
def execLd_H_A (s : State) : Result := .next (ldRegReg .h .a s)
/-- `LD L,B` (R400). -/
def execLd_L_B (s : State) : Result := .next (ldRegReg .l .b s)
/-- `LD L,C` (R400). -/
def execLd_L_C (s : State) : Result := .next (ldRegReg .l .c s)
/-- `LD L,D` (R400). -/
def execLd_L_D (s : State) : Result := .next (ldRegReg .l .d s)
/-- `LD L,E` (R400). -/
def execLd_L_E (s : State) : Result := .next (ldRegReg .l .e s)
/-- `LD L,H` (R400). -/
def execLd_L_H (s : State) : Result := .next (ldRegReg .l .h s)
/-- `LD L,L` (R400). -/
def execLd_L_L (s : State) : Result := .next (ldRegReg .l .l s)

/-- `LD L,(HL)` (R402). -/
def execLd_L_mHL (s : State) : Result := .next (ldRegMem .l s)

/-- `LD L,A` (R400). -/
def execLd_L_A (s : State) : Result := .next (ldRegReg .l .a s)

/-- `LD (HL),B` (R403). -/
def execLd_mHL_B (s : State) : Result := .next (ldMemReg .b s)
/-- `LD (HL),C` (R403). -/
def execLd_mHL_C (s : State) : Result := .next (ldMemReg .c s)
/-- `LD (HL),D` (R403). -/
def execLd_mHL_D (s : State) : Result := .next (ldMemReg .d s)
/-- `LD (HL),E` (R403). -/
def execLd_mHL_E (s : State) : Result := .next (ldMemReg .e s)
/-- `LD (HL),H` (R403). -/
def execLd_mHL_H (s : State) : Result := .next (ldMemReg .h s)
/-- `LD (HL),L` (R403). -/
def execLd_mHL_L (s : State) : Result := .next (ldMemReg .l s)
/-- `LD (HL),A` (R403). -/
def execLd_mHL_A (s : State) : Result := .next (ldMemReg .a s)

/-- `LD A,B` (R400). -/
def execLd_A_B (s : State) : Result := .next (ldRegReg .a .b s)
/-- `LD A,C` (R400). -/
def execLd_A_C (s : State) : Result := .next (ldRegReg .a .c s)
/-- `LD A,D` (R400). -/
def execLd_A_D (s : State) : Result := .next (ldRegReg .a .d s)
/-- `LD A,E` (R400). -/
def execLd_A_E (s : State) : Result := .next (ldRegReg .a .e s)
/-- `LD A,H` (R400). -/
def execLd_A_H (s : State) : Result := .next (ldRegReg .a .h s)
/-- `LD A,L` (R400). -/
def execLd_A_L (s : State) : Result := .next (ldRegReg .a .l s)

/-- `LD A,(HL)` (R402). -/
def execLd_A_mHL (s : State) : Result := .next (ldRegMem .a s)

/-- `LD A,A` (R400). -/
def execLd_A_A (s : State) : Result := .next (ldRegReg .a .a s)

/-- `POP BC` (R423). -/
def execPop_BC (s : State) : Result := .next (pop .bc s)

/-- `PUSH BC` (R422). -/
def execPush_BC (s : State) : Result := .next (push .bc s)

/-- `POP DE` (R423). -/
def execPop_DE (s : State) : Result := .next (pop .de s)

/-- `PUSH DE` (R422). -/
def execPush_DE (s : State) : Result := .next (push .de s)

/-- `LDH (n8),A` (R412). -/
def execLdh_mN8_A (n : Byte) (s : State) : Result := .next (stATo (highPage n) 12 s)

/-- `POP HL` (R423). -/
def execPop_HL (s : State) : Result := .next (pop .hl s)

/-- `LD (C),A` (R414). -/
def execLd_mC_A (s : State) : Result := .next (stATo (highPage s.regs.c) 8 s)

/-- `PUSH HL` (R422). -/
def execPush_HL (s : State) : Result := .next (push .hl s)

/-- `LD (n16),A` (R410). -/
def execLd_mN16_A (nn : Word) (s : State) : Result := .next (stATo nn 16 s)

/-- `LDH A,(n8)` (R411). -/
def execLdh_A_mN8 (n : Byte) (s : State) : Result := .next (ldAFrom (highPage n) 12 s)

/-- `POP AF` (R424). -/
def execPop_AF (s : State) : Result := .next (pop .af s)

/-- `LD A,(C)` (R413). -/
def execLd_A_mC (s : State) : Result := .next (ldAFrom (highPage s.regs.c) 8 s)

/-- `PUSH AF` (R422). -/
def execPush_AF (s : State) : Result := .next (push .af s)

/-- `LD SP,HL` (R421). -/
def execLd_SP_HL (s : State) : Result := .next (ldSPHL s)

/-- `LD A,(n16)` (R409). -/
def execLd_A_mN16 (nn : Word) (s : State) : Result := .next (ldAFrom nn 16 s)

end Sys2Proof.Machine
end

