-- ==== Sys2Proof/Machine/System.lean ====
section
/-! DEFINITION. System and CPU-control instructions and the eleven illegal opcodes (45_system.md R570-R576): the shared
operations, then one meaning for each row. -/

namespace Sys2Proof.Machine

/-- `NOP` (R570). -/
def nop (s : State) : State := s.tick 4

/-- `HALT` (R571). -/
def haltCpu (s : State) : State := State.tick { s with halted := true } 4

/-- STOP's ignored byte is fetched when `STOP_LENGTH` = 2 (R572). -/
def State.skipStopByte (s : State) : State :=
  match s.config.stopLength with
  | .one => s
  | .two => s.fetch8.2

/-- "The double-speed toggle ... applied atomically": speed flipped, KEY1.0 cleared (R572). -/
def Mmu.switchSpeed (m : Mmu) : Mmu := { m with doubleSpeed := !m.doubleSpeed, key1Armed := false }

/-- `STOP`: Fatal(F6) in DMG mode, the speed switch when armed, else nothing (R572). -/
def stopCpu (s : State) : State :=
  if s.mmu.cgb then
    bif s.mmu.key1Armed then State.tick { s.skipStopByte with mmu := s.mmu.switchSpeed } 4 else s.skipStopByte.tick 4
  else s.skipStopByte.raise (.f6StopOnDmg (s.pc - 1))

/-- `DI` (R573). -/
def disableInterrupts (s : State) : State := State.tick { s with ime := false, imePending := false } 4

/-- `EI`: IME itself is not changed (R574). -/
def enableInterrupts (s : State) : State := State.tick { s with imePending := true } 4

/-- An illegal opcode: Fatal(F1, opcode, its address); PC stays one past it (R576). -/
def illegal (op : Byte) (s : State) : State := s.raise (.f1UndefinedOpcode op (s.pc - 1))

/-- `NOP` (R570). -/
def execNop (s : State) : Result := .next (nop s)

/-- `STOP` (R572). -/
def execStop (s : State) : Result := .next (stopCpu s)

/-- `HALT` (R571). -/
def execHalt (s : State) : Result := .next (haltCpu s)

/-- `ILLEGAL` (R576). -/
def execIllegal_D3 (s : State) : Result := .next (illegal 0xD3 s)
/-- `ILLEGAL` (R576). -/
def execIllegal_DB (s : State) : Result := .next (illegal 0xDB s)
/-- `ILLEGAL` (R576). -/
def execIllegal_DD (s : State) : Result := .next (illegal 0xDD s)
/-- `ILLEGAL` (R576). -/
def execIllegal_E3 (s : State) : Result := .next (illegal 0xE3 s)
/-- `ILLEGAL` (R576). -/
def execIllegal_E4 (s : State) : Result := .next (illegal 0xE4 s)
/-- `ILLEGAL` (R576). -/
def execIllegal_EB (s : State) : Result := .next (illegal 0xEB s)
/-- `ILLEGAL` (R576). -/
def execIllegal_EC (s : State) : Result := .next (illegal 0xEC s)
/-- `ILLEGAL` (R576). -/
def execIllegal_ED (s : State) : Result := .next (illegal 0xED s)

/-- `DI` (R573). -/
def execDi (s : State) : Result := .next (disableInterrupts s)

/-- `ILLEGAL` (R576). -/
def execIllegal_F4 (s : State) : Result := .next (illegal 0xF4 s)

/-- `EI` (R574). -/
def execEi (s : State) : Result := .next (enableInterrupts s)

/-- `ILLEGAL` (R576). -/
def execIllegal_FC (s : State) : Result := .next (illegal 0xFC s)
/-- `ILLEGAL` (R576). -/
def execIllegal_FD (s : State) : Result := .next (illegal 0xFD s)

end Sys2Proof.Machine
end

