-- ==== Sys2Proof/Machine/Cycle.lean ====
section
/-! DEFINITION. One unit of `step_cycles` and the iteration of the step loop around it (60_exceptions.md R605, R612, R614),
with the debugger's hook (R715). -/

namespace Sys2Proof.Machine

/-! ## The debugger's hook -/

/-- One action of the debugger; a store goes through the MMU and can be fatal (R715). -/
def State.debugAction (s : State) : DebugAction → State
  | .setReg8 r v => s.setReg8 r v
  | .setF v => s.setF v
  | .setSP v => s.setSP v
  | .setPC v => s.jump v
  | .store a v => s.memWrite a v id

/-- Actions in order, none after a fatal one (R16). -/
def State.debugActions : List DebugAction → State → State
  | [], s => s
  | x :: rest, s => if s.fault.isSome then s else State.debugActions rest (s.debugAction x)

/-- `if x[PC] in BREAKPOINTS: debugger_hook()` (R612, R715): the debugger's next list of actions. -/
def State.debugHook (s : State) : State :=
  if s.pc ∈ s.config.breakpoints then
    match s.debugger with
    | [] => s
    | now :: later => State.debugActions now { s with debugger := later }
  else s

/-! ## `step_cycles` -/

/-- The pending enable "applied at the top of the next step" (R107, R612). -/
def State.applyPendingEnable (s : State) : State :=
  if s.imePending then { s with ime := true, imePending := false } else s

/-- Fetch the instruction at PC and execute it. -/
def State.fetchExec (s : State) : Result := exec s.fetchInstr.1 s.fetchInstr.2

/-- The part of a step after the interrupt check let it go on (R612). -/
def State.runOne (s : State) : Result :=
  if s.halted then .next (s.tick 4)
  else if s.applyPendingEnable.debugHook.fault.isSome then .next s.applyPendingEnable.debugHook
  else s.applyPendingEnable.debugHook.fetchExec

/-- `step_cycles()` (R612), the interrupt check first (R605): a dispatch, a wake from HALT without one, or `runOne`. -/
def State.stepCycles (s : State) : Result :=
  match s.mmu.readySource with
  | some i =>
    if s.ime then .next (s.takeInterrupt i)
    else if s.halted then .next (State.tick { s with halted := false } 4)
    else s.runOne
  | none => s.runOne

/-! ## The system step -/

/-- After `step_cycles`: nothing more if it entered the fault state (R601), else the peripherals with its cost (R614). -/
def State.afterCycles (ds : Bool) (s : State) : State :=
  if s.fault.isSome then s else { s with mmu := s.mmu.peripherals s.config ds s.cost }

/-- One iteration of the step loop (R614), the host's key events at its boundary (R711); `double_speed` is sampled before
`step_cycles` (D71). -/
def State.systemStep (s : State) : Result :=
  match s.takeKeyEvents.stepCycles with
  | .next t => .next (t.afterCycles s.mmu.doubleSpeed)
  | .fault f => .fault f
  | .refused r => .refused r

/-! ## Placing a word for the next fetch -/

/-- Put the byte v where reads of address a find it: the storage array, ROM and boot ROM included, or IE. An I/O register of
its own behaviour, the unusable range and absent RAM hold nothing. -/
def Mmu.place (m : Mmu) (a : Word) (v : Byte) : Mmu :=
  match m.locate a with
  | .boot k => { m with bootRom := m.bootRom.write k v }
  | .rom k => { m with cart := { m.cart with rom := m.cart.rom.write k v } }
  | .vram k => { m with video := { m.video with vram := m.video.vram.write k v } }
  | .extRam k => { m with cart := { m.cart with ram := m.cart.ram.write k v } }
  | .noRam => m
  | .wram k => { m with wram := m.wram.write k v }
  | .oam k => { m with video := { m.video with oam := m.video.oam.write k v } }
  | .unusable => m
  | .io k => if ioReg m.cgb k = .plain then { m with io := m.io.write k v } else m
  | .hram k => { m with hram := m.hram.write k v }
  | .ie => { m with intEnable := v }

/-- Nothing stands between the step and its fetch: no fault, no halt, no ready interrupt, no debugger's action. A state in
which none of these holds is unchanged. -/
def State.readyToFetch (s : State) : State :=
  { s with fault := none, halted := false,
           debugger := if s.pc ∈ s.config.breakpoints then [] else s.debugger,
           mmu := { s.mmu with
             intFlag := if s.mmu.readySource = none then s.mmu.intFlag
                        else s.mmu.intFlag &&& ~~~(s.mmu.intEnable.setWidth 5) } }

/-- The three bytes placed at PC, PC + 1, PC + 2. -/
def State.placeAtPC (s : State) (b : Byte × Byte × Byte) : State :=
  State.readyToFetch { s with mmu := ((s.mmu.place s.pc b.1).place (s.pc + 1) b.2.1).place (s.pc + 2) b.2.2 }

end Sys2Proof.Machine
end

