-- ==== Sys2Proof/Machine/Step.lean ====
section
/-! DEFINITION. The machine's one transition (60_exceptions.md R614: "a model's single transition is one iteration of this
loop"), and the placing of an instruction word where it fetches next. -/

namespace Sys2Proof.Machine

/-- One step. In the fault state no step is taken (R601, R110): the machine answers its fatal condition. -/
def step (s : State) : Host.Outcome State Fault Refusal :=
  match s.fault with
  | some f => .fault f
  | none => s.systemStep

/-- s with the instruction of a table word (its bits above `nbits` zero) placed where the next step fetches (assumption 4). -/
def State.withFetchWord (s : State) (nbits w : Nat) : State := s.placeAtPC (tableBytes nbits w)

end Sys2Proof.Machine
end

