-- ==== Sys2Proof/Machine/Frame.lean ====
section
/-! DEFINITION. `run_one_frame`, the host-level loop over the step (60_exceptions.md R614, R615, R713). -/

namespace Sys2Proof.Machine

/-- `frame_complete <- 0`, made by the host's call. -/
def State.clearFrameComplete (s : State) : State :=
  { s with mmu := { s.mmu with video := { s.mmu.video with frameComplete := false } } }

/-- Steps until the controller reports a completed frame, at most `fuel` of them: the state it returns in, or none when no
frame was completed or a step stopped (R614, R617, R601). -/
def stepsToFrame : Nat → State → Option State
  | 0, _ => none
  | fuel + 1, s =>
    match step s with
    | .next t => if t.mmu.video.frameComplete then some t else stepsToFrame fuel t
    | .fault _ => none
    | .refused _ => none

/-- `run_one_frame(display)` (R614). -/
def runOneFrame (fuel : Nat) (s : State) : Option State := stepsToFrame fuel s.clearFrameComplete

end Sys2Proof.Machine
end

