-- ==== Sys2Proof/Machine/Load.lean ====
section
/-! DEFINITION. The cartridge load and the two power-on states (20_memory.md R240-R246, 70_reset_and_hazards.md R800-R802).
An image is its length and its bytes that are not 0x00. -/

namespace Sys2Proof.Machine

/-- "A flat byte array": a length and the bytes, those not listed 0x00. -/
structure Image where
  size : Nat
  bytes : Memory
  deriving DecidableEq, Repr

/-- `INITIAL_RAM`: the contents of the arrays R800 names, a free draw of whoever loads (00_scope.md R10, D20). -/
structure InitialRam where
  wram : Memory
  vram : Memory
  oam : Memory
  hram : Memory
  bgPram : Memory
  obPram : Memory
  deriving DecidableEq, Repr

/-- All bytes 0x00, `INITIAL_RAM` absent. -/
def InitialRam.zero : InitialRam := ⟨[], [], [], [], [], []⟩

/-- `CGB`: the header byte 0x143 is 0x80 or 0xC0 (00_scope.md R4). -/
def cgbFlag (b : Byte) : Bool := b == 0x80#8 || b == 0xC0#8

/-- `type_table` (20_memory.md R241). -/
def variantOf (t : Byte) : Option Variant :=
  let n := t.toNat
  if n = 0x00 ∨ n = 0x08 ∨ n = 0x09 then some .noBank
  else if 0x01 ≤ n ∧ n ≤ 0x03 then some .variantA
  else if 0x0F ≤ n ∧ n ≤ 0x13 then some .variantB
  else if 0x19 ≤ n ∧ n ≤ 0x1E then some .variantC
  else none

/-- N_rom = 2 << code for codes 0 to 8 (R242). -/
def romBanks (code : Byte) : Option Nat := if code.toNat ≤ 8 then some (2 <<< code.toNat) else none

/-- `ram_table`: N_ram and S_ram (R243). -/
def ramBanks (code : Byte) : Option (Nat × Nat) :=
  let n := code.toNat
  if n = 0 then some (0, 0)
  else if n = 1 then some (1, 0x800)
  else if n = 2 then some (1, 0x2000)
  else if n = 3 then some (4, 0x2000)
  else if n = 4 then some (16, 0x2000)
  else if n = 5 then some (8, 0x2000)
  else none

/-- The RAM banks of a variant: no-bank has one 8 KiB bank, its code not looked at (R243). -/
def ramBanksFor (v : Variant) (code : Byte) : Option (Nat × Nat) :=
  match v with
  | .noBank => some (1, 0x2000)
  | _ => ramBanks code

/-- The bank counts are within the variant's addressable range (R246). -/
def bankCountsFit (v : Variant) (nRom nRam : Nat) : Bool :=
  match v with
  | .noBank => decide (nRom = 2)
  | .variantA => decide (nRom ≤ 128) && decide (nRam ≤ 4)
  | .variantB => decide (nRom ≤ 128) && decide (nRam ≤ 16)
  | .variantC => decide (nRom ≤ 512) && decide (nRam ≤ 16)

/-- The cartridge, checked in the order of R802, with `SAVE_RAM` copied into the RAM banks (R244, R245). -/
def loadCartridge (cart : Image) (save : Image) : Except Fault Cartridge :=
  if cart.size < 0x150 then .error (.f8ImageLength cart.size)
  else
    match variantOf (cart.bytes.read 0x147) with
    | none => .error (.f3ControllerType (cart.bytes.read 0x147))
    | some v =>
      match romBanks (cart.bytes.read 0x148) with
      | none => .error (.f7SizeCode (cart.bytes.read 0x148))
      | some nRom =>
        match ramBanksFor v (cart.bytes.read 0x149) with
        | none => .error (.f7SizeCode (cart.bytes.read 0x149))
        | some (nRam, sRam) =>
          if cart.size ≠ nRom * 0x4000 then .error (.f8ImageLength cart.size)
          else if bankCountsFit v nRom nRam then
            .ok { rom := cart.bytes, ram := (save.bytes.below save.size).below (nRam * sRam), nRom, nRam, sRam,
                  mapper := Mapper.initial v }
          else .error (.f4BankCount v nRom nRam)

/-- The video controller at power-on with initial contents. -/
def InitialRam.video (r : InitialRam) : Video :=
  { Video.reset with vram := r.vram, oam := r.oam, bgPram := r.bgPram, obPram := r.obPram }

/-- The reset state of R800: a boot ROM given. -/
def powerOn (cfg : Config) (cgb : Bool) (cart : Cartridge) (bootRom : Memory) (ram : InitialRam) : State :=
  { State.reset with
    config := cfg,
    mmu := { Mmu.reset with cgb, cart, bootRom, wram := ram.wram, hram := ram.hram, video := ram.video } }

/-- The registers of R801. -/
def postBootRegs (cgb : Bool) : Regs :=
  bif cgb then ⟨0x11, 0x80, 0x00, 0x00, 0xFF, 0x56, 0x00, 0x0D⟩ else ⟨0x01, 0xB0, 0x00, 0x13, 0x00, 0xD8, 0x01, 0x4D⟩

/-- The video controller of R801: LCDC 0x91, the palettes, and the OAM-search entry of line 0 made. -/
def postBootVideo (cgb : Bool) (v : Video) : Video :=
  Video.enterOam { v with
    lcdc := 0x91, bgp := 0xFC, obp0 := 0xFF, obp1 := 0xFF,
    bgPram := bif cgb then Memory.fill 0 0xFF 64 else v.bgPram,
    obPram := bif cgb then Memory.fill 0 0xFF 64 else v.obPram }

/-- The reset state of R801: no boot ROM. -/
def postBoot (cfg : Config) (cgb : Bool) (cart : Cartridge) (ram : InitialRam) : State :=
  let s := powerOn cfg cgb cart [] ram
  { s with
    regs := postBootRegs cgb, sp := 0xFFFE, pc := 0x0100,
    mmu := { s.mmu with bootMode := false, io := s.mmu.io.write 0x50 0x01, intFlag := 1,
                        video := postBootVideo cgb s.mmu.video } }

/-- `load(CART, SAVE_RAM, BOOT_ROM)` (R802): a machine ready for its first step, or a fatal condition and no step at all
(R601). `save` absent is an image of length 0. -/
def load (cfg : Config) (cart save : Image) (bootRom : Option Memory) (ram : InitialRam) : Result :=
  match loadCartridge cart save with
  | .error f => .fault f
  | .ok c =>
    match bootRom with
    | some b => .next (powerOn cfg (cgbFlag (cart.bytes.read 0x143)) c b ram)
    | none => .next (postBoot cfg (cgbFlag (cart.bytes.read 0x143)) c ram)

end Sys2Proof.Machine
end

