-- ==== Sys2Proof/Machine/Reach.lean ====
section
/-! DEFINITION. Frames: what a store can change, as later reads see it (20_memory.md R202, R219), and what an instruction
leaves unchanged. -/

namespace Sys2Proof.Machine

/-- lo <= n < hi. -/
def between (lo n hi : Nat) : Bool := decide (lo ≤ n) && decide (n < hi)

/-- A store to the I/O register `r` at offset k may change what address p reads: the register itself, and what the
register's write rule names (R113-R135): the controller's state behind LCDC.7 (R650), the boot overlay (R129), the bank
windows (R128, R134), a palette index and its data port (R132, R133). -/
def IoReg.touches (r : IoReg) (k p : Nat) : Bool :=
  match r with
  | .ly | .hdma1 | .hdma2 | .hdma3 | .hdma4 | .hdma5 => false
  | .lcdc => p == 0xFF40 || p == 0xFF41 || p == 0xFF44 || between 0x8000 p 0xA000 || between 0xFE00 p 0xFEA0
  | .boot => p == 0xFF50 || decide (p < 0x900)
  | .vbk => p == 0xFF4F || between 0x8000 p 0xA000
  | .bcps | .bcpd => p == 0xFF68 || p == 0xFF69
  | .ocps | .ocpd => p == 0xFF6A || p == 0xFF6B
  | .svbk => p == 0xFF70 || between 0xD000 p 0xE000 || between 0xF000 p 0xFE00
  | .p1 | .div | .tima | .tma | .tac | .ifReg | .stat | .scy | .scx | .lyc | .dma | .bgp | .obp0 | .obp1 | .wy | .wx
  | .key1 | .plain => p == 0xFF00 + k

/-- A control write of the MemoryBank may change the two switchable windows (R249, R250, R252, R254). -/
def Mapper.touches (m : Mapper) (p : Nat) : Bool := m != .noBank && (between 0x4000 p 0x8000 || between 0xA000 p 0xC000)

/-- A store to address a may change what address x reads. A plain byte of storage is touched under each of its addresses:
its own, and its echo (R208). -/
def Mmu.touches (m : Mmu) (a x : Word) : Bool :=
  if a.toNat < 0x8000 then m.cart.mapper.touches x.toNat
  else
    match m.locate a with
    | .boot _ | .rom _ | .noRam | .unusable => false
    | .io k => (ioReg m.cgb k).touches k x.toNat
    | l => m.locate x == l

/-- A read of address a returns what the latest store to it wrote: plain storage outside a blocked window (R214). -/
def Mmu.holds (m : Mmu) (a : Word) : Bool :=
  decide (0x8000 ≤ a.toNat) &&
    match m.locate a with
    | .boot _ | .rom _ | .noRam | .unusable => false
    | .vram _ => !m.video.vramBlocked
    | .oam _ => !m.video.oamBlocked
    | .io k => ioReg m.cgb k == .plain
    | .extRam _ | .wram _ | .hram _ | .ie => true

/-- `touches`, from a state. -/
def State.touches (s : State) (a x : Word) : Bool := s.mmu.touches a x

/-- Which variant the selectors are of (R150). -/
def Mapper.variant : Mapper → Variant
  | .noBank => .noBank
  | .variantA _ _ _ _ => .variantA
  | .variantB _ _ _ => .variantB
  | .variantC _ _ _ _ => .variantC

/-- The number of a fatal condition, F1 to F8 (60_exceptions.md R600). -/
def Fault.code : Fault → Nat
  | .f1UndefinedOpcode _ _ => 1
  | .f2UndefinedCbOpcode => 2
  | .f3ControllerType _ => 3
  | .f4BankCount _ _ _ => 4
  | .f5HblankDma _ => 5
  | .f6StopOnDmg _ => 6
  | .f7SizeCode _ => 7
  | .f8ImageLength _ => 8

/-! ## Stores in sequence -/

/-- The stores of an instruction, made in order. -/
def State.storeList : List (Word × Byte) → State → State
  | [], s => s
  | (a, v) :: rest, s => State.storeList rest (s.store a v)

/-- One of the stores, made in order, may change what address x reads. -/
def State.storesTouch : List (Word × Byte) → State → Word → Bool
  | [], _, _ => false
  | (a, v) :: rest, s, x => s.touches a x || State.storesTouch rest (s.store a v) x

/-- One of the stores, made in order, asks for the H-blank-paced VRAM DMA, which is fatal (60_exceptions.md R675). -/
def State.storesFatal : List (Word × Byte) → State → Bool
  | [], _ => false
  | (a, v) :: rest, s => s.mmu.hblankDmaRequest a v || State.storesFatal rest (s.store a v)

/-! ## What an instruction leaves unchanged -/

/-- Every 8-bit register but the named ones holds what it held. -/
def State.keepsRegs (s t : State) (written : List Reg8) : Prop := ∀ y, y ∉ written → t.reg8 y = s.reg8 y

/-- F is unchanged as a whole. -/
def State.keepsFlags (s t : State) : Prop := t.regs.f = s.regs.f

/-- Z, N, H, C in this order, and F's low nibble zero (R102, R103). -/
def State.hasFlags (t : State) (z n h c : Bool) : Prop :=
  t.flagZ = z ∧ t.flagN = n ∧ t.flagH = h ∧ t.flagC = c ∧ t.regs.f &&& 0x0F#8 = 0

/-- Apart from the registers, SP, PC and the cost, t differs from s by the stores alone: IME, the pending enable, `halted`,
the fault state, the parameters and the host's queues are those of s, the MMU with all its registers is that of s after the
stores, and every byte of memory that no store touches reads as before. -/
def State.keepsRestBut (stores : List (Word × Byte)) (s t : State) : Prop :=
  t = { s with regs := t.regs, sp := t.sp, pc := t.pc, cost := t.cost, mmu := t.mmu } ∧
    t.mmu = (State.storeList stores s).mmu ∧ ∀ x, State.storesTouch stores s x = false → t.read x = s.read x

/-- `keepsRestBut` of an instruction that stores nothing: every byte of memory reads as before. -/
def State.keepsRest (s t : State) : Prop :=
  t = { s with regs := t.regs, sp := t.sp, pc := t.pc, cost := t.cost } ∧ ∀ x, t.read x = s.read x

/-- The 8-bit halves of a pair. -/
def Pair.halves : Pair → List Reg8
  | .bc => [.b, .c]
  | .de => [.d, .e]
  | .hl => [.h, .l]
  | .sp => []

/-- The registers a place is, if it is one. -/
def Place8.regs : Place8 → List Reg8
  | .reg r => [r]
  | .memHL => []

/-- The store that writing v to a place makes, if any. -/
def State.placeStores (s : State) (p : Place8) (v : Byte) : List (Word × Byte) :=
  match p with
  | .reg _ => []
  | .memHL => [(s.hl, v)]

/-- The place holds v: the register does, or the byte at HL was stored (and reads v where storage is plain). -/
def State.placeGets (s t : State) (p : Place8) (v : Byte) : Prop :=
  match p with
  | .reg r => t.reg8 r = v
  | .memHL => s.mmu.holds s.hl = true → t.read s.hl = v

end Sys2Proof.Machine
end

