-- ==== Sys2Proof/Machine/Rows.lean ====
section
/-! DEFINITION. The rows of the opcode maps by instruction rule: an opcode byte (the byte after 0xCB for a CB row), its
instruction, and its operands as the fields of 30_encoding.md R302-R312 name them. Statements about a rule quantify over its
rows. -/

namespace Sys2Proof.Machine

/-- `LD r,r'` (R400), 01 yyy zzz: the registers r[y] and r[z]. -/
def rowsLdRegReg : List (Byte × Instr × Reg8 × Reg8) :=
  [(0x40, .ld_B_B, .b, .b), (0x41, .ld_B_C, .b, .c), (0x42, .ld_B_D, .b, .d), (0x43, .ld_B_E, .b, .e),
   (0x44, .ld_B_H, .b, .h), (0x45, .ld_B_L, .b, .l), (0x47, .ld_B_A, .b, .a), (0x48, .ld_C_B, .c, .b),
   (0x49, .ld_C_C, .c, .c), (0x4A, .ld_C_D, .c, .d), (0x4B, .ld_C_E, .c, .e), (0x4C, .ld_C_H, .c, .h),
   (0x4D, .ld_C_L, .c, .l), (0x4F, .ld_C_A, .c, .a), (0x50, .ld_D_B, .d, .b), (0x51, .ld_D_C, .d, .c),
   (0x52, .ld_D_D, .d, .d), (0x53, .ld_D_E, .d, .e), (0x54, .ld_D_H, .d, .h), (0x55, .ld_D_L, .d, .l),
   (0x57, .ld_D_A, .d, .a), (0x58, .ld_E_B, .e, .b), (0x59, .ld_E_C, .e, .c), (0x5A, .ld_E_D, .e, .d),
   (0x5B, .ld_E_E, .e, .e), (0x5C, .ld_E_H, .e, .h), (0x5D, .ld_E_L, .e, .l), (0x5F, .ld_E_A, .e, .a),
   (0x60, .ld_H_B, .h, .b), (0x61, .ld_H_C, .h, .c), (0x62, .ld_H_D, .h, .d), (0x63, .ld_H_E, .h, .e),
   (0x64, .ld_H_H, .h, .h), (0x65, .ld_H_L, .h, .l), (0x67, .ld_H_A, .h, .a), (0x68, .ld_L_B, .l, .b),
   (0x69, .ld_L_C, .l, .c), (0x6A, .ld_L_D, .l, .d), (0x6B, .ld_L_E, .l, .e), (0x6C, .ld_L_H, .l, .h),
   (0x6D, .ld_L_L, .l, .l), (0x6F, .ld_L_A, .l, .a), (0x78, .ld_A_B, .a, .b), (0x79, .ld_A_C, .a, .c),
   (0x7A, .ld_A_D, .a, .d), (0x7B, .ld_A_E, .a, .e), (0x7C, .ld_A_H, .a, .h), (0x7D, .ld_A_L, .a, .l),
   (0x7F, .ld_A_A, .a, .a)]

/-- `LD r,n8` (R401), 00 yyy 110. -/
def rowsLdRegImm (n : Byte) : List (Byte × Instr × Reg8) :=
  [(0x06, .ld_B_n8 n, .b), (0x0E, .ld_C_n8 n, .c), (0x16, .ld_D_n8 n, .d), (0x1E, .ld_E_n8 n, .e),
   (0x26, .ld_H_n8 n, .h), (0x2E, .ld_L_n8 n, .l), (0x3E, .ld_A_n8 n, .a)]

/-- `LD r,(HL)` (R402), 01 yyy 110. -/
def rowsLdRegMem : List (Byte × Instr × Reg8) :=
  [(0x46, .ld_B_mHL, .b), (0x4E, .ld_C_mHL, .c), (0x56, .ld_D_mHL, .d), (0x5E, .ld_E_mHL, .e),
   (0x66, .ld_H_mHL, .h), (0x6E, .ld_L_mHL, .l), (0x7E, .ld_A_mHL, .a)]

/-- `LD rr,n16` (R419), 00 pp0 001. -/
def rowsLdPairImm (nn : Word) : List (Byte × Instr × Pair) :=
  [(0x01, .ld_BC_n16 nn, .bc), (0x11, .ld_DE_n16 nn, .de), (0x21, .ld_HL_n16 nn, .hl), (0x31, .ld_SP_n16 nn, .sp)]

/-- `PUSH rr` (R422), 11 pp0 101. -/
def rowsPush : List (Byte × Instr × StackPair) :=
  [(0xC5, .push_BC, .bc), (0xD5, .push_DE, .de), (0xE5, .push_HL, .hl), (0xF5, .push_AF, .af)]

/-- `POP rr` (R423, R424), 11 pp0 001. -/
def rowsPop : List (Byte × Instr × StackPair) :=
  [(0xC1, .pop_BC, .bc), (0xD1, .pop_DE, .de), (0xE1, .pop_HL, .hl), (0xF1, .pop_AF, .af)]

/-- `ADD A,src` (R443, R442): the eight forms 10 000 zzz, then the immediate form. -/
def rowsAdd (n : Byte) : List (Byte × Instr × Src8) :=
  [(0x80, .add_A_B, .reg .b), (0x81, .add_A_C, .reg .c), (0x82, .add_A_D, .reg .d), (0x83, .add_A_E, .reg .e),
   (0x84, .add_A_H, .reg .h), (0x85, .add_A_L, .reg .l), (0x86, .add_A_mHL, .memHL), (0x87, .add_A_A, .reg .a),
   (0xC6, .add_A_n8 n, .imm n)]

/-- `ADC A,src` (R444, R442): the eight forms 10 001 zzz, then the immediate form. -/
def rowsAdc (n : Byte) : List (Byte × Instr × Src8) :=
  [(0x88, .adc_A_B, .reg .b), (0x89, .adc_A_C, .reg .c), (0x8A, .adc_A_D, .reg .d), (0x8B, .adc_A_E, .reg .e),
   (0x8C, .adc_A_H, .reg .h), (0x8D, .adc_A_L, .reg .l), (0x8E, .adc_A_mHL, .memHL), (0x8F, .adc_A_A, .reg .a),
   (0xCE, .adc_A_n8 n, .imm n)]

/-- `SUB A,src` (R445, R442): the eight forms 10 010 zzz, then the immediate form. -/
def rowsSub (n : Byte) : List (Byte × Instr × Src8) :=
  [(0x90, .sub_A_B, .reg .b), (0x91, .sub_A_C, .reg .c), (0x92, .sub_A_D, .reg .d), (0x93, .sub_A_E, .reg .e),
   (0x94, .sub_A_H, .reg .h), (0x95, .sub_A_L, .reg .l), (0x96, .sub_A_mHL, .memHL), (0x97, .sub_A_A, .reg .a),
   (0xD6, .sub_A_n8 n, .imm n)]

/-- `SBC A,src` (R446, R442): the eight forms 10 011 zzz, then the immediate form. -/
def rowsSbc (n : Byte) : List (Byte × Instr × Src8) :=
  [(0x98, .sbc_A_B, .reg .b), (0x99, .sbc_A_C, .reg .c), (0x9A, .sbc_A_D, .reg .d), (0x9B, .sbc_A_E, .reg .e),
   (0x9C, .sbc_A_H, .reg .h), (0x9D, .sbc_A_L, .reg .l), (0x9E, .sbc_A_mHL, .memHL), (0x9F, .sbc_A_A, .reg .a),
   (0xDE, .sbc_A_n8 n, .imm n)]

/-- `AND A,src` (R447, R442): the eight forms 10 100 zzz, then the immediate form. -/
def rowsAnd (n : Byte) : List (Byte × Instr × Src8) :=
  [(0xA0, .and_A_B, .reg .b), (0xA1, .and_A_C, .reg .c), (0xA2, .and_A_D, .reg .d), (0xA3, .and_A_E, .reg .e),
   (0xA4, .and_A_H, .reg .h), (0xA5, .and_A_L, .reg .l), (0xA6, .and_A_mHL, .memHL), (0xA7, .and_A_A, .reg .a),
   (0xE6, .and_A_n8 n, .imm n)]

/-- `XOR A,src` (R448, R442): the eight forms 10 101 zzz, then the immediate form. -/
def rowsXor (n : Byte) : List (Byte × Instr × Src8) :=
  [(0xA8, .xor_A_B, .reg .b), (0xA9, .xor_A_C, .reg .c), (0xAA, .xor_A_D, .reg .d), (0xAB, .xor_A_E, .reg .e),
   (0xAC, .xor_A_H, .reg .h), (0xAD, .xor_A_L, .reg .l), (0xAE, .xor_A_mHL, .memHL), (0xAF, .xor_A_A, .reg .a),
   (0xEE, .xor_A_n8 n, .imm n)]

/-- `OR A,src` (R449, R442): the eight forms 10 110 zzz, then the immediate form. -/
def rowsOr (n : Byte) : List (Byte × Instr × Src8) :=
  [(0xB0, .or_A_B, .reg .b), (0xB1, .or_A_C, .reg .c), (0xB2, .or_A_D, .reg .d), (0xB3, .or_A_E, .reg .e),
   (0xB4, .or_A_H, .reg .h), (0xB5, .or_A_L, .reg .l), (0xB6, .or_A_mHL, .memHL), (0xB7, .or_A_A, .reg .a),
   (0xF6, .or_A_n8 n, .imm n)]

/-- `CP A,src` (R450, R442): the eight forms 10 111 zzz, then the immediate form. -/
def rowsCp (n : Byte) : List (Byte × Instr × Src8) :=
  [(0xB8, .cp_A_B, .reg .b), (0xB9, .cp_A_C, .reg .c), (0xBA, .cp_A_D, .reg .d), (0xBB, .cp_A_E, .reg .e),
   (0xBC, .cp_A_H, .reg .h), (0xBD, .cp_A_L, .reg .l), (0xBE, .cp_A_mHL, .memHL), (0xBF, .cp_A_A, .reg .a),
   (0xFE, .cp_A_n8 n, .imm n)]

/-- `INC r`, `INC (HL)` (R451, R452), 00 yyy 100. -/
def rowsInc8 : List (Byte × Instr × Place8) :=
  [(0x04, .inc_B, .reg .b), (0x0C, .inc_C, .reg .c), (0x14, .inc_D, .reg .d), (0x1C, .inc_E, .reg .e),
   (0x24, .inc_H, .reg .h), (0x2C, .inc_L, .reg .l), (0x34, .inc_mHL, .memHL), (0x3C, .inc_A, .reg .a)]

/-- `DEC r`, `DEC (HL)` (R453, R454), 00 yyy 101. -/
def rowsDec8 : List (Byte × Instr × Place8) :=
  [(0x05, .dec_B, .reg .b), (0x0D, .dec_C, .reg .c), (0x15, .dec_D, .reg .d), (0x1D, .dec_E, .reg .e),
   (0x25, .dec_H, .reg .h), (0x2D, .dec_L, .reg .l), (0x35, .dec_mHL, .memHL), (0x3D, .dec_A, .reg .a)]

/-- `ADD HL,rr` (R480), 00 pp1 001. -/
def rowsAddHL : List (Byte × Instr × Pair) :=
  [(0x09, .add_HL_BC, .bc), (0x19, .add_HL_DE, .de), (0x29, .add_HL_HL, .hl), (0x39, .add_HL_SP, .sp)]

/-- `INC rr` (R481), 00 pp0 011. -/
def rowsIncPair : List (Byte × Instr × Pair) :=
  [(0x03, .inc_BC, .bc), (0x13, .inc_DE, .de), (0x23, .inc_HL, .hl), (0x33, .inc_SP, .sp)]

/-- `DEC rr` (R482), 00 pp1 011. -/
def rowsDecPair : List (Byte × Instr × Pair) :=
  [(0x0B, .dec_BC, .bc), (0x1B, .dec_DE, .de), (0x2B, .dec_HL, .hl), (0x3B, .dec_SP, .sp)]

/-- The rotates and shifts of the CB table (R505-R512, R311), 00 yyy zzz: the operation number y and the operand r[z]. -/
def rowsShift : List (Byte × Instr × Nat × Place8) :=
  [(0x00, .rlc_B, 0, .reg .b), (0x01, .rlc_C, 0, .reg .c), (0x02, .rlc_D, 0, .reg .d), (0x03, .rlc_E, 0, .reg .e),
   (0x04, .rlc_H, 0, .reg .h), (0x05, .rlc_L, 0, .reg .l), (0x06, .rlc_mHL, 0, .memHL), (0x07, .rlc_A, 0, .reg .a),
   (0x08, .rrc_B, 1, .reg .b), (0x09, .rrc_C, 1, .reg .c), (0x0A, .rrc_D, 1, .reg .d), (0x0B, .rrc_E, 1, .reg .e),
   (0x0C, .rrc_H, 1, .reg .h), (0x0D, .rrc_L, 1, .reg .l), (0x0E, .rrc_mHL, 1, .memHL), (0x0F, .rrc_A, 1, .reg .a),
   (0x10, .rl_B, 2, .reg .b), (0x11, .rl_C, 2, .reg .c), (0x12, .rl_D, 2, .reg .d), (0x13, .rl_E, 2, .reg .e),
   (0x14, .rl_H, 2, .reg .h), (0x15, .rl_L, 2, .reg .l), (0x16, .rl_mHL, 2, .memHL), (0x17, .rl_A, 2, .reg .a),
   (0x18, .rr_B, 3, .reg .b), (0x19, .rr_C, 3, .reg .c), (0x1A, .rr_D, 3, .reg .d), (0x1B, .rr_E, 3, .reg .e),
   (0x1C, .rr_H, 3, .reg .h), (0x1D, .rr_L, 3, .reg .l), (0x1E, .rr_mHL, 3, .memHL), (0x1F, .rr_A, 3, .reg .a),
   (0x20, .sla_B, 4, .reg .b), (0x21, .sla_C, 4, .reg .c), (0x22, .sla_D, 4, .reg .d), (0x23, .sla_E, 4, .reg .e),
   (0x24, .sla_H, 4, .reg .h), (0x25, .sla_L, 4, .reg .l), (0x26, .sla_mHL, 4, .memHL), (0x27, .sla_A, 4, .reg .a),
   (0x28, .sra_B, 5, .reg .b), (0x29, .sra_C, 5, .reg .c), (0x2A, .sra_D, 5, .reg .d), (0x2B, .sra_E, 5, .reg .e),
   (0x2C, .sra_H, 5, .reg .h), (0x2D, .sra_L, 5, .reg .l), (0x2E, .sra_mHL, 5, .memHL), (0x2F, .sra_A, 5, .reg .a),
   (0x30, .swap_B, 6, .reg .b), (0x31, .swap_C, 6, .reg .c), (0x32, .swap_D, 6, .reg .d),
   (0x33, .swap_E, 6, .reg .e), (0x34, .swap_H, 6, .reg .h), (0x35, .swap_L, 6, .reg .l),
   (0x36, .swap_mHL, 6, .memHL), (0x37, .swap_A, 6, .reg .a), (0x38, .srl_B, 7, .reg .b),
   (0x39, .srl_C, 7, .reg .c), (0x3A, .srl_D, 7, .reg .d), (0x3B, .srl_E, 7, .reg .e), (0x3C, .srl_H, 7, .reg .h),
   (0x3D, .srl_L, 7, .reg .l), (0x3E, .srl_mHL, 7, .memHL), (0x3F, .srl_A, 7, .reg .a)]

/-- `BIT b,r` (R513), 01 bbb zzz: the bit b and the operand r[z]. -/
def rowsBit : List (Byte × Instr × Nat × Place8) :=
  [(0x40, .bit_0_B, 0, .reg .b), (0x41, .bit_0_C, 0, .reg .c), (0x42, .bit_0_D, 0, .reg .d),
   (0x43, .bit_0_E, 0, .reg .e), (0x44, .bit_0_H, 0, .reg .h), (0x45, .bit_0_L, 0, .reg .l),
   (0x46, .bit_0_mHL, 0, .memHL), (0x47, .bit_0_A, 0, .reg .a), (0x48, .bit_1_B, 1, .reg .b),
   (0x49, .bit_1_C, 1, .reg .c), (0x4A, .bit_1_D, 1, .reg .d), (0x4B, .bit_1_E, 1, .reg .e),
   (0x4C, .bit_1_H, 1, .reg .h), (0x4D, .bit_1_L, 1, .reg .l), (0x4E, .bit_1_mHL, 1, .memHL),
   (0x4F, .bit_1_A, 1, .reg .a), (0x50, .bit_2_B, 2, .reg .b), (0x51, .bit_2_C, 2, .reg .c),
   (0x52, .bit_2_D, 2, .reg .d), (0x53, .bit_2_E, 2, .reg .e), (0x54, .bit_2_H, 2, .reg .h),
   (0x55, .bit_2_L, 2, .reg .l), (0x56, .bit_2_mHL, 2, .memHL), (0x57, .bit_2_A, 2, .reg .a),
   (0x58, .bit_3_B, 3, .reg .b), (0x59, .bit_3_C, 3, .reg .c), (0x5A, .bit_3_D, 3, .reg .d),
   (0x5B, .bit_3_E, 3, .reg .e), (0x5C, .bit_3_H, 3, .reg .h), (0x5D, .bit_3_L, 3, .reg .l),
   (0x5E, .bit_3_mHL, 3, .memHL), (0x5F, .bit_3_A, 3, .reg .a), (0x60, .bit_4_B, 4, .reg .b),
   (0x61, .bit_4_C, 4, .reg .c), (0x62, .bit_4_D, 4, .reg .d), (0x63, .bit_4_E, 4, .reg .e),
   (0x64, .bit_4_H, 4, .reg .h), (0x65, .bit_4_L, 4, .reg .l), (0x66, .bit_4_mHL, 4, .memHL),
   (0x67, .bit_4_A, 4, .reg .a), (0x68, .bit_5_B, 5, .reg .b), (0x69, .bit_5_C, 5, .reg .c),
   (0x6A, .bit_5_D, 5, .reg .d), (0x6B, .bit_5_E, 5, .reg .e), (0x6C, .bit_5_H, 5, .reg .h),
   (0x6D, .bit_5_L, 5, .reg .l), (0x6E, .bit_5_mHL, 5, .memHL), (0x6F, .bit_5_A, 5, .reg .a),
   (0x70, .bit_6_B, 6, .reg .b), (0x71, .bit_6_C, 6, .reg .c), (0x72, .bit_6_D, 6, .reg .d),
   (0x73, .bit_6_E, 6, .reg .e), (0x74, .bit_6_H, 6, .reg .h), (0x75, .bit_6_L, 6, .reg .l),
   (0x76, .bit_6_mHL, 6, .memHL), (0x77, .bit_6_A, 6, .reg .a), (0x78, .bit_7_B, 7, .reg .b),
   (0x79, .bit_7_C, 7, .reg .c), (0x7A, .bit_7_D, 7, .reg .d), (0x7B, .bit_7_E, 7, .reg .e),
   (0x7C, .bit_7_H, 7, .reg .h), (0x7D, .bit_7_L, 7, .reg .l), (0x7E, .bit_7_mHL, 7, .memHL),
   (0x7F, .bit_7_A, 7, .reg .a)]

/-- `RES b,r` (R514), 10 bbb zzz: the bit b and the operand r[z]. -/
def rowsRes : List (Byte × Instr × Nat × Place8) :=
  [(0x80, .res_0_B, 0, .reg .b), (0x81, .res_0_C, 0, .reg .c), (0x82, .res_0_D, 0, .reg .d),
   (0x83, .res_0_E, 0, .reg .e), (0x84, .res_0_H, 0, .reg .h), (0x85, .res_0_L, 0, .reg .l),
   (0x86, .res_0_mHL, 0, .memHL), (0x87, .res_0_A, 0, .reg .a), (0x88, .res_1_B, 1, .reg .b),
   (0x89, .res_1_C, 1, .reg .c), (0x8A, .res_1_D, 1, .reg .d), (0x8B, .res_1_E, 1, .reg .e),
   (0x8C, .res_1_H, 1, .reg .h), (0x8D, .res_1_L, 1, .reg .l), (0x8E, .res_1_mHL, 1, .memHL),
   (0x8F, .res_1_A, 1, .reg .a), (0x90, .res_2_B, 2, .reg .b), (0x91, .res_2_C, 2, .reg .c),
   (0x92, .res_2_D, 2, .reg .d), (0x93, .res_2_E, 2, .reg .e), (0x94, .res_2_H, 2, .reg .h),
   (0x95, .res_2_L, 2, .reg .l), (0x96, .res_2_mHL, 2, .memHL), (0x97, .res_2_A, 2, .reg .a),
   (0x98, .res_3_B, 3, .reg .b), (0x99, .res_3_C, 3, .reg .c), (0x9A, .res_3_D, 3, .reg .d),
   (0x9B, .res_3_E, 3, .reg .e), (0x9C, .res_3_H, 3, .reg .h), (0x9D, .res_3_L, 3, .reg .l),
   (0x9E, .res_3_mHL, 3, .memHL), (0x9F, .res_3_A, 3, .reg .a), (0xA0, .res_4_B, 4, .reg .b),
   (0xA1, .res_4_C, 4, .reg .c), (0xA2, .res_4_D, 4, .reg .d), (0xA3, .res_4_E, 4, .reg .e),
   (0xA4, .res_4_H, 4, .reg .h), (0xA5, .res_4_L, 4, .reg .l), (0xA6, .res_4_mHL, 4, .memHL),
   (0xA7, .res_4_A, 4, .reg .a), (0xA8, .res_5_B, 5, .reg .b), (0xA9, .res_5_C, 5, .reg .c),
   (0xAA, .res_5_D, 5, .reg .d), (0xAB, .res_5_E, 5, .reg .e), (0xAC, .res_5_H, 5, .reg .h),
   (0xAD, .res_5_L, 5, .reg .l), (0xAE, .res_5_mHL, 5, .memHL), (0xAF, .res_5_A, 5, .reg .a),
   (0xB0, .res_6_B, 6, .reg .b), (0xB1, .res_6_C, 6, .reg .c), (0xB2, .res_6_D, 6, .reg .d),
   (0xB3, .res_6_E, 6, .reg .e), (0xB4, .res_6_H, 6, .reg .h), (0xB5, .res_6_L, 6, .reg .l),
   (0xB6, .res_6_mHL, 6, .memHL), (0xB7, .res_6_A, 6, .reg .a), (0xB8, .res_7_B, 7, .reg .b),
   (0xB9, .res_7_C, 7, .reg .c), (0xBA, .res_7_D, 7, .reg .d), (0xBB, .res_7_E, 7, .reg .e),
   (0xBC, .res_7_H, 7, .reg .h), (0xBD, .res_7_L, 7, .reg .l), (0xBE, .res_7_mHL, 7, .memHL),
   (0xBF, .res_7_A, 7, .reg .a)]

/-- `SET b,r` (R515), 11 bbb zzz: the bit b and the operand r[z]. -/
def rowsSet : List (Byte × Instr × Nat × Place8) :=
  [(0xC0, .set_0_B, 0, .reg .b), (0xC1, .set_0_C, 0, .reg .c), (0xC2, .set_0_D, 0, .reg .d),
   (0xC3, .set_0_E, 0, .reg .e), (0xC4, .set_0_H, 0, .reg .h), (0xC5, .set_0_L, 0, .reg .l),
   (0xC6, .set_0_mHL, 0, .memHL), (0xC7, .set_0_A, 0, .reg .a), (0xC8, .set_1_B, 1, .reg .b),
   (0xC9, .set_1_C, 1, .reg .c), (0xCA, .set_1_D, 1, .reg .d), (0xCB, .set_1_E, 1, .reg .e),
   (0xCC, .set_1_H, 1, .reg .h), (0xCD, .set_1_L, 1, .reg .l), (0xCE, .set_1_mHL, 1, .memHL),
   (0xCF, .set_1_A, 1, .reg .a), (0xD0, .set_2_B, 2, .reg .b), (0xD1, .set_2_C, 2, .reg .c),
   (0xD2, .set_2_D, 2, .reg .d), (0xD3, .set_2_E, 2, .reg .e), (0xD4, .set_2_H, 2, .reg .h),
   (0xD5, .set_2_L, 2, .reg .l), (0xD6, .set_2_mHL, 2, .memHL), (0xD7, .set_2_A, 2, .reg .a),
   (0xD8, .set_3_B, 3, .reg .b), (0xD9, .set_3_C, 3, .reg .c), (0xDA, .set_3_D, 3, .reg .d),
   (0xDB, .set_3_E, 3, .reg .e), (0xDC, .set_3_H, 3, .reg .h), (0xDD, .set_3_L, 3, .reg .l),
   (0xDE, .set_3_mHL, 3, .memHL), (0xDF, .set_3_A, 3, .reg .a), (0xE0, .set_4_B, 4, .reg .b),
   (0xE1, .set_4_C, 4, .reg .c), (0xE2, .set_4_D, 4, .reg .d), (0xE3, .set_4_E, 4, .reg .e),
   (0xE4, .set_4_H, 4, .reg .h), (0xE5, .set_4_L, 4, .reg .l), (0xE6, .set_4_mHL, 4, .memHL),
   (0xE7, .set_4_A, 4, .reg .a), (0xE8, .set_5_B, 5, .reg .b), (0xE9, .set_5_C, 5, .reg .c),
   (0xEA, .set_5_D, 5, .reg .d), (0xEB, .set_5_E, 5, .reg .e), (0xEC, .set_5_H, 5, .reg .h),
   (0xED, .set_5_L, 5, .reg .l), (0xEE, .set_5_mHL, 5, .memHL), (0xEF, .set_5_A, 5, .reg .a),
   (0xF0, .set_6_B, 6, .reg .b), (0xF1, .set_6_C, 6, .reg .c), (0xF2, .set_6_D, 6, .reg .d),
   (0xF3, .set_6_E, 6, .reg .e), (0xF4, .set_6_H, 6, .reg .h), (0xF5, .set_6_L, 6, .reg .l),
   (0xF6, .set_6_mHL, 6, .memHL), (0xF7, .set_6_A, 6, .reg .a), (0xF8, .set_7_B, 7, .reg .b),
   (0xF9, .set_7_C, 7, .reg .c), (0xFA, .set_7_D, 7, .reg .d), (0xFB, .set_7_E, 7, .reg .e),
   (0xFC, .set_7_H, 7, .reg .h), (0xFD, .set_7_L, 7, .reg .l), (0xFE, .set_7_mHL, 7, .memHL),
   (0xFF, .set_7_A, 7, .reg .a)]

/-- `JP cc,n16` (R542), 11 0cc 010. -/
def rowsJpIf (nn : Word) : List (Byte × Instr × Cond) :=
  [(0xC2, .jp_NZ_n16 nn, .nz), (0xCA, .jp_Z_n16 nn, .z), (0xD2, .jp_NC_n16 nn, .nc), (0xDA, .jp_C_n16 nn, .c)]

/-- `JR cc,e8` (R545), 00 1cc 000. -/
def rowsJrIf (e : Byte) : List (Byte × Instr × Cond) :=
  [(0x20, .jr_NZ_e8 e, .nz), (0x28, .jr_Z_e8 e, .z), (0x30, .jr_NC_e8 e, .nc), (0x38, .jr_C_e8 e, .c)]

/-- `CALL cc,n16` (R547), 11 0cc 100. -/
def rowsCallIf (nn : Word) : List (Byte × Instr × Cond) :=
  [(0xC4, .call_NZ_n16 nn, .nz), (0xCC, .call_Z_n16 nn, .z), (0xD4, .call_NC_n16 nn, .nc),
   (0xDC, .call_C_n16 nn, .c)]

/-- `RET cc` (R549), 11 0cc 000. -/
def rowsRetIf : List (Byte × Instr × Cond) :=
  [(0xC0, .ret_NZ, .nz), (0xC8, .ret_Z, .z), (0xD0, .ret_NC, .nc), (0xD8, .ret_C, .c)]

/-- `RST t` (R551, R312), 11 ttt 111: the target. -/
def rowsRst : List (Byte × Instr × Word) :=
  [(0xC7, .rst_00, 0x00), (0xCF, .rst_08, 0x08), (0xD7, .rst_10, 0x10), (0xDF, .rst_18, 0x18),
   (0xE7, .rst_20, 0x20), (0xEF, .rst_28, 0x28), (0xF7, .rst_30, 0x30), (0xFF, .rst_38, 0x38)]

/-- The eleven illegal values (R316, R576). -/
def rowsIllegal : List (Byte × Instr) :=
  [(0xD3, .illegal_D3), (0xDB, .illegal_DB), (0xDD, .illegal_DD), (0xE3, .illegal_E3), (0xE4, .illegal_E4),
   (0xEB, .illegal_EB), (0xEC, .illegal_EC), (0xED, .illegal_ED), (0xF4, .illegal_F4), (0xFC, .illegal_FC),
   (0xFD, .illegal_FD)]

/-! ## Stores -/

/-- The one-byte stores (R403, R404, R407, R408, R410, R412, R414): opcode, instruction, address, value, cycles; b2 and b3 are
the operand bytes. -/
def rowsStore (b2 b3 : Byte) : List (Byte × Instr × (State → Word) × (State → Byte) × Nat) :=
  [(0x70, .ld_mHL_B, State.hl, fun s => s.regs.b, 8), (0x71, .ld_mHL_C, State.hl, fun s => s.regs.c, 8),
   (0x72, .ld_mHL_D, State.hl, fun s => s.regs.d, 8), (0x73, .ld_mHL_E, State.hl, fun s => s.regs.e, 8),
   (0x74, .ld_mHL_H, State.hl, fun s => s.regs.h, 8), (0x75, .ld_mHL_L, State.hl, fun s => s.regs.l, 8),
   (0x77, .ld_mHL_A, State.hl, fun s => s.regs.a, 8), (0x36, .ld_mHL_n8 b2, State.hl, fun _ => b2, 12),
   (0x02, .ld_mBC_A, State.bc, fun s => s.regs.a, 8), (0x12, .ld_mDE_A, State.de, fun s => s.regs.a, 8),
   (0xEA, .ld_mN16_A (word16 b3 b2), fun _ => word16 b3 b2, fun s => s.regs.a, 16),
   (0xE0, .ldh_mN8_A b2, fun _ => 0xFF00 + b2.setWidth 16, fun s => s.regs.a, 12),
   (0xE2, .ld_mC_A, fun s => 0xFF00 + s.regs.c.setWidth 16, fun s => s.regs.a, 8)]

/-- The stores of a push of v with the stack pointer at sp (00_scope.md R15): the high byte first, at the higher address. -/
def pushStores (sp v : Word) : List (Word × Byte) := [(sp - 1, (v >>> 8).setWidth 8), (sp - 2, v.setWidth 8)]
/-! ## The rotates and shifts in plain arithmetic -/

/-- The result and the new carry of operation y of the CB table (R505-R512) on a byte of value v, the carry before being c:
0 RLC, 1 RRC, 2 RL, 3 RR, 4 SLA, 5 SRA, 6 SWAP, 7 SRL. -/
def shiftValue (y v : Nat) (c : Bool) : Nat × Bool :=
  if y = 0 then ((2 * v + v / 128) % 256, decide (128 ≤ v))
  else if y = 1 then (v / 2 + 128 * (v % 2), decide (v % 2 = 1))
  else if y = 2 then ((2 * v + c.toNat) % 256, decide (128 ≤ v))
  else if y = 3 then (v / 2 + 128 * c.toNat, decide (v % 2 = 1))
  else if y = 4 then (2 * v % 256, decide (128 ≤ v))
  else if y = 5 then (v / 2 + 128 * (v / 128), decide (v % 2 = 1))
  else if y = 6 then (16 * (v % 16) + v / 16, false)
  else (v / 2, decide (v % 2 = 1))

end Sys2Proof.Machine
end

