-- ==== Sys2Proof/Safety.lean ====
section
/-! DEFINITION. What a safe run is, and the invariant of the machine: the bounds 10_state.md gives for the state between
steps. A fatal condition can fall in the middle of a step (R601), so the part that a whole step restores is asked only of
states without one. -/

namespace Sys2Proof.Machine

/-! ## Runs -/

/-- t is reached from s by steps. -/
inductive Reaches : State → State → Prop where
  | here (s : State) : Reaches s s
  | after {s t u : State} (h : Reaches s t) (hu : step t = .next u) : Reaches s u

/-- No fatal condition is ever reached ("a proof of a property at the end of the program must show the fault state is
unreachable", R601). -/
def Safe (s : State) : Prop := ∀ t, Reaches s t → t.fault = none

/-! ## The parts of the invariant -/

/-- A storage array: canonical, and nothing beyond its size (R144). -/
def Memory.fits (m : Memory) (size : Nat) : Prop := m.wf = true ∧ m.within size = true

/-- "F's low nibble is always zero" (R102). -/
def Regs.inv (r : Regs) : Prop := r.f &&& 0x0F#8 = 0

/-- "low5 is never 0" (R249), and rom7 when `MBC3_ZERO_IS_ONE` (R251). -/
def Mapper.inv (zeroIsOne : Bool) : Mapper → Prop
  | .noBank => True
  | .variantA _ low5 _ _ => low5 ≠ 0
  | .variantB _ rom7 _ => zeroIsOne = true → rom7 ≠ 0
  | .variantC _ _ _ _ => True

/-- The cartridge: its selectors, and its banks within the counts and sizes fixed at load (R243, R244, R257). -/
def Cartridge.inv (zeroIsOne : Bool) (c : Cartridge) : Prop :=
  c.mapper.inv zeroIsOne ∧ c.rom.fits (c.nRom * 0x4000) ∧ c.ram.fits (c.nRam * c.sRam) ∧ 0 < c.nRom ∧
    (c.nRam ≠ 0 → c.sRam = 0x800 ∨ c.sRam = 0x2000) ∧ (c.mapper = .noBank → c.nRam * c.sRam = 0x2000)

/-- The accumulators (R146): `tima_acc` never reaches the longest period. -/
def Timer.inv (t : Timer) : Prop := t.divAcc < 256 ∧ t.timaAcc < 1024

/-- `tima_acc` is "less than the current period between steps", while the timer is enabled (R146). -/
def Timer.settled (t : Timer) : Prop := t.tac.getLsbD 2 = true → t.timaAcc < timerPeriod t.tac

/-- The cycle windows and lines of the modes (R640); the controller rests at line 0, cycle 0, mode 0 with the LCD off
(R650, R800). -/
def Video.placed (v : Video) : Prop :=
  if v.lcdOn then
    match v.mode with
    | .oamSearch => v.ly.toNat < 144 ∧ v.lineCycles < 80
    | .transfer => v.ly.toNat < 144 ∧ 80 ≤ v.lineCycles ∧ v.lineCycles < 252
    | .hblank => v.ly.toNat < 144 ∧ 252 ≤ v.lineCycles ∧ v.lineCycles < 456
    | .vblank => 144 ≤ v.ly.toNat ∧ v.ly.toNat < 154 ∧ v.lineCycles < 456
  else v.mode = .hblank ∧ v.ly = 0 ∧ v.lineCycles = 0

/-- "a list of at most 10 OAM indices in increasing order" (R145). -/
def Video.spritesListed (v : Video) : Prop :=
  v.sprites.length ≤ 10 ∧ v.sprites.Pairwise (· < ·) ∧ ∀ k ∈ v.sprites, k < 40

/-- The video controller (R132, R144, R145, R640). -/
def Video.inv (v : Video) : Prop :=
  v.placed ∧ v.spritesListed ∧ v.bcps.getLsbD 6 = false ∧ v.ocps.getLsbD 6 = false ∧
    v.vram.fits 0x4000 ∧ v.oam.fits 160 ∧ v.bgPram.fits 64 ∧ v.obPram.fits 64

/-- `dma_cursor` 0 to 160; an active transfer has a byte left and less than a byte's cycles (R147, R671). -/
def OamDma.inv (d : OamDma) : Prop := d.cursor ≤ 160 ∧ (d.active = true → d.cursor < 160 ∧ d.acc < 4)

/-- What CGB mode alone has rests at its reset value in DMG mode (R4, R112), and bank 1 of VRAM and banks 2 to 7 of WRAM are
not there (R142, R144). -/
def Mmu.dmgInv (m : Mmu) : Prop :=
  m.cgb = false → m.doubleSpeed = false ∧ m.key1Armed = false ∧ m.video.vbk = 0 ∧ m.svbk = 0 ∧ m.hdma.armed = false ∧
    m.video.vram.within 0x2000 = true ∧ m.wram.within 0x2000 = true

/-- The MMU and what it owns. -/
def Mmu.inv (zeroIsOne : Bool) (m : Mmu) : Prop :=
  m.cart.inv zeroIsOne ∧ m.timer.inv ∧ m.video.inv ∧ m.oamDma.inv ∧ m.dmgInv ∧ m.bootRom.wf = true ∧
    m.wram.fits 0x8000 ∧ m.hram.fits 127 ∧ m.io.fits 128

/-- What holds between steps: no VRAM DMA is armed (R676), the requests of this step's video controller and joypad are in IF
(R604), and `tima_acc` is below the period (R621). -/
def Mmu.settled (m : Mmu) : Prop :=
  m.hdma.armed = false ∧ m.video.pendingVblank = false ∧ m.video.pendingStat = false ∧ m.joypad.pending = false ∧
    m.timer.settled

/-- The invariant of every step. -/
def State.Inv (s : State) : Prop :=
  s.regs.inv ∧ s.mmu.inv s.config.mbc3ZeroIsOne ∧ (s.fault = none → s.mmu.settled)

end Sys2Proof.Machine
end

