-- ==== Sys2Proof/Certificates/Slice0/Obligations.lean ====
section
/-! DEFINITION. The statements about the model, from the numbered rules of the spec. In a statement about an instruction, PC is
already past the instruction's bytes (StepRunsDecoded says what a step adds); `keepsRest` and `keepsRestBut` are the frames. -/

open Sys2Proof Sys2Proof.Machine

/-! ## Loads, stores and the stack -/

/-- 40_loads.md R400, R401, R402. `LD r,r'` (49 forms), `LD r,n8`, `LD r,(HL)` (the address is HL before the instruction, also
for H and L): encoding, result, frame, cycles. -/
def Obligations.LoadToRegister : Prop :=
  (∀ op i dst src, (op, i, dst, src) ∈ rowsLdRegReg → (∀ b2 b3, decodeBytes op b2 b3 = i) ∧
    ∀ s : State, ∃ t, exec i s = .next t ∧ t.reg8 dst = s.reg8 src ∧ s.keepsRegs t [dst] ∧ s.keepsFlags t ∧
      t.sp = s.sp ∧ t.pc = s.pc ∧ t.cost = 4 ∧ s.keepsRest t) ∧
  (∀ n op i dst, (op, i, dst) ∈ rowsLdRegImm n → (∀ b3, decodeBytes op n b3 = i) ∧
    ∀ s : State, ∃ t, exec i s = .next t ∧ t.reg8 dst = n ∧ s.keepsRegs t [dst] ∧ s.keepsFlags t ∧
      t.sp = s.sp ∧ t.pc = s.pc ∧ t.cost = 8 ∧ s.keepsRest t) ∧
  ∀ op i dst, (op, i, dst) ∈ rowsLdRegMem → (∀ b2 b3, decodeBytes op b2 b3 = i) ∧
    ∀ s : State, ∃ t, exec i s = .next t ∧ t.reg8 dst = s.read s.hl ∧ s.keepsRegs t [dst] ∧ s.keepsFlags t ∧
      t.sp = s.sp ∧ t.pc = s.pc ∧ t.cost = 8 ∧ s.keepsRest t

/-- R405, R406, R409, R411, R413. `LD A,(BC)`, `LD A,(DE)`, `LD A,(n16)`, `LDH A,(n8)`, `LD A,(C)`. -/
def Obligations.LoadAccumulator : Prop :=
  ∀ (b2 b3 op : Byte) (i : Instr) (addr : State → Word) (cycles : Nat),
    (op, i, addr, cycles) ∈
      [((0x0A : Byte), Instr.ld_A_mBC, State.bc, 8), (0x1A, .ld_A_mDE, State.de, 8),
       (0xFA, .ld_A_mN16 (word16 b3 b2), fun _ => word16 b3 b2, 16),
       (0xF0, .ldh_A_mN8 b2, fun _ => 0xFF00 + b2.setWidth 16, 12),
       (0xF2, .ld_A_mC, fun s => 0xFF00 + s.regs.c.setWidth 16, 8)] →
    decodeBytes op b2 b3 = i ∧
    ∀ s : State, ∃ t, exec i s = .next t ∧ t.regs.a = s.read (addr s) ∧ s.keepsRegs t [.a] ∧ s.keepsFlags t ∧
      t.sp = s.sp ∧ t.pc = s.pc ∧ t.cost = cycles ∧ s.keepsRest t

/-- R403, R404, R407, R408, R410, R412, R414. The one-byte stores: one store of the value at the address, and nothing else;
plain storage then reads the value. A store that R675 makes fatal is FatalStores. -/
def Obligations.StoreByte : Prop :=
  ∀ (b2 b3 op : Byte) (i : Instr) (addr : State → Word) (value : State → Byte) (cycles : Nat),
    (op, i, addr, value, cycles) ∈ rowsStore b2 b3 →
    decodeBytes op b2 b3 = i ∧
    ∀ s : State, s.storesFatal [(addr s, value s)] = false → ∃ t, exec i s = .next t ∧ s.keepsRegs t [] ∧
      s.keepsFlags t ∧ t.sp = s.sp ∧ t.pc = s.pc ∧ t.cost = cycles ∧ s.keepsRestBut [(addr s, value s)] t ∧
      (s.mmu.holds (addr s) = true → t.read (addr s) = value s)

/-- R415, R416, R417, R418. The loads and stores through HL that step HL by one, modulo 2^16. -/
def Obligations.LoadStoreStepHL : Prop :=
  (∀ op i d, (op, i, d) ∈ [((0x22 : Byte), Instr.ld_mHLinc_A, (1 : Word)), (0x32, .ld_mHLdec_A, 0xFFFF)] →
    (∀ b2 b3, decodeBytes op b2 b3 = i) ∧
    ∀ s : State, s.storesFatal [(s.hl, s.regs.a)] = false → ∃ t, exec i s = .next t ∧ t.hl = s.hl + d ∧
      s.keepsRegs t [.h, .l] ∧ s.keepsFlags t ∧ t.sp = s.sp ∧ t.pc = s.pc ∧ t.cost = 8 ∧
      s.keepsRestBut [(s.hl, s.regs.a)] t ∧ (s.mmu.holds s.hl = true → t.read s.hl = s.regs.a)) ∧
  ∀ op i d, (op, i, d) ∈ [((0x2A : Byte), Instr.ld_A_mHLinc, (1 : Word)), (0x3A, .ld_A_mHLdec, 0xFFFF)] →
    (∀ b2 b3, decodeBytes op b2 b3 = i) ∧
    ∀ s : State, ∃ t, exec i s = .next t ∧ t.regs.a = s.read s.hl ∧ t.hl = s.hl + d ∧ s.keepsRegs t [.a, .h, .l] ∧
      s.keepsFlags t ∧ t.sp = s.sp ∧ t.pc = s.pc ∧ t.cost = 8 ∧ s.keepsRest t

/-- R419, R421. `LD rr,n16`, little-endian, and `LD SP,HL`. -/
def Obligations.LoadPair : Prop :=
  (∀ b2 b3 op i p, (op, i, p) ∈ rowsLdPairImm (word16 b3 b2) → decodeBytes op b2 b3 = i ∧
    ∀ s : State, ∃ t, exec i s = .next t ∧ t.pair p = word16 b3 b2 ∧ s.keepsRegs t p.halves ∧ s.keepsFlags t ∧
      (p ≠ .sp → t.sp = s.sp) ∧ t.pc = s.pc ∧ t.cost = 12 ∧ s.keepsRest t) ∧
  (∀ b2 b3, decodeBytes 0xF9 b2 b3 = .ld_SP_HL) ∧
  ∀ s : State, ∃ t, exec .ld_SP_HL s = .next t ∧ t.sp = s.hl ∧ s.keepsRegs t [] ∧ s.keepsFlags t ∧ t.pc = s.pc ∧
    t.cost = 8 ∧ s.keepsRest t

/-- R420. `LD (n16),SP`: the low byte at n16, then the high byte at the next address modulo 2^16. -/
def Obligations.StoreStackPointer : Prop :=
  ∀ b2 b3, decodeBytes 0x08 b2 b3 = .ld_mN16_SP (word16 b3 b2) ∧
    ∀ s : State,
      s.storesFatal [(word16 b3 b2, s.sp.setWidth 8), (word16 b3 b2 + 1, (s.sp >>> 8).setWidth 8)] = false →
      ∃ t, exec (.ld_mN16_SP (word16 b3 b2)) s = .next t ∧ s.keepsRegs t [] ∧ s.keepsFlags t ∧ t.sp = s.sp ∧
        t.pc = s.pc ∧ t.cost = 20 ∧
        s.keepsRestBut [(word16 b3 b2, s.sp.setWidth 8), (word16 b3 b2 + 1, (s.sp >>> 8).setWidth 8)] t

/-- R422. `PUSH rr`: the high byte at SP - 1, then the low byte at SP - 2; F is pushed with its low nibble zero. -/
def Obligations.PushWord : Prop :=
  ∀ op i p, (op, i, p) ∈ rowsPush → (∀ b2 b3, decodeBytes op b2 b3 = i) ∧
    ∀ s : State, s.storesFatal (pushStores s.sp (s.stackPair p)) = false →
      ∃ t, exec i s = .next t ∧ t.sp = s.sp - 2 ∧ s.keepsRegs t [] ∧ s.keepsFlags t ∧ t.pc = s.pc ∧ t.cost = 16 ∧
        s.keepsRestBut (pushStores s.sp (s.stackPair p)) t

/-- R423, R424. `POP rr`: the low byte from SP, the high byte from SP + 1; `POP AF` stores F's upper nibble only. -/
def Obligations.PopWord : Prop :=
  ∀ op i p, (op, i, p) ∈ rowsPop → (∀ b2 b3, decodeBytes op b2 b3 = i) ∧
    ∀ s : State, ∃ t, exec i s = .next t ∧ t.sp = s.sp + 2 ∧ t.pc = s.pc ∧ t.cost = 12 ∧ s.keepsRest t ∧
      (p = .af → t.regs.a = s.read (s.sp + 1) ∧ t.regs.f = s.read s.sp &&& 0xF0#8 ∧ s.keepsRegs t [.a]) ∧
      (p ≠ .af → t.stackPair p = word16 (s.read (s.sp + 1)) (s.read s.sp) ∧ s.keepsFlags t ∧
        (p = .bc → s.keepsRegs t [.b, .c]) ∧ (p = .de → s.keepsRegs t [.d, .e]) ∧ (p = .hl → s.keepsRegs t [.h, .l]))

/-- R423 (its invariant), from every state of the invariant: a word pushed on plain storage is popped unchanged, by any POP but
`POP AF` of another pair's word, and SP is restored. -/
def Obligations.PushPopRoundTrip : Prop :=
  ∀ opPush i p opPop j q (s : State), (opPush, i, p) ∈ rowsPush → (opPop, j, q) ∈ rowsPop → (q = .af → p = .af) →
    s.Inv → s.mmu.holds (s.sp - 1) = true → s.mmu.holds (s.sp - 2) = true →
    ∃ t u, exec i s = .next t ∧ exec j t = .next u ∧ u.stackPair q = s.stackPair p ∧ u.sp = s.sp

/-! ## 8-bit arithmetic and logic -/

/-- 41_alu8.md R440, R442, R443, R444. ADD and ADC, all eighteen forms: the sum, Z 0 H C with H out of bit 3 and C out of bit 7,
both counting the carry-in; the source is read before A is written. -/
def Obligations.AddToAccumulator : Prop :=
  ∀ n op i src, (op, i, src) ∈ rowsAdd n ∨ (op, i, src) ∈ rowsAdc n → (∀ b3, decodeBytes op n b3 = i) ∧
    ∀ s : State, ∃ t, exec i s = .next t ∧
      (let cin := if (op, i, src) ∈ rowsAdc n then s.flagC.toNat else 0
       t.regs.a.toNat = (s.regs.a.toNat + (s.src8 src).toNat + cin) % 256 ∧
       t.hasFlags (t.regs.a == 0) false
         (decide (s.regs.a.toNat % 16 + (s.src8 src).toNat % 16 + cin > 15))
         (decide (s.regs.a.toNat + (s.src8 src).toNat + cin > 255))) ∧
      s.keepsRegs t [.a] ∧ t.sp = s.sp ∧ t.pc = s.pc ∧ t.cost = src.cost ∧ s.keepsRest t

/-- R441, R442, R445, R446, R450. SUB, SBC and CP: Z 1 H C with H the borrow from bit 4 and C the borrow, both counting the
borrow-in; CP discards the result. -/
def Obligations.SubtractAndCompare : Prop :=
  ∀ n op i src, (op, i, src) ∈ rowsSub n ∨ (op, i, src) ∈ rowsSbc n ∨ (op, i, src) ∈ rowsCp n →
    (∀ b3, decodeBytes op n b3 = i) ∧
    ∀ s : State, ∃ t, exec i s = .next t ∧
      (let cin := if (op, i, src) ∈ rowsSbc n then s.flagC.toNat else 0
       let diff := (s.regs.a.toNat + 512 - (s.src8 src).toNat - cin) % 256
       t.regs.a.toNat = (if (op, i, src) ∈ rowsCp n then s.regs.a.toNat else diff) ∧
       t.hasFlags (decide (diff = 0)) true
         (decide (s.regs.a.toNat % 16 < (s.src8 src).toNat % 16 + cin))
         (decide (s.regs.a.toNat < (s.src8 src).toNat + cin))) ∧
      s.keepsRegs t [.a] ∧ t.sp = s.sp ∧ t.pc = s.pc ∧ t.cost = src.cost ∧ s.keepsRest t

/-- R442, R447, R448, R449. AND (Z 0 1 0), XOR and OR (Z 0 0 0), bit by bit. -/
def Obligations.LogicOnAccumulator : Prop :=
  ∀ n op i src (f : Bool → Bool → Bool) (h : Bool),
    (op, i, src) ∈ rowsAnd n ∧ f = and ∧ h = true ∨ (op, i, src) ∈ rowsXor n ∧ f = xor ∧ h = false ∨
      (op, i, src) ∈ rowsOr n ∧ f = or ∧ h = false →
    (∀ b3, decodeBytes op n b3 = i) ∧
    ∀ s : State, ∃ t, exec i s = .next t ∧
      (∀ k < 8, t.regs.a.getLsbD k = f (s.regs.a.getLsbD k) ((s.src8 src).getLsbD k)) ∧
      t.hasFlags (t.regs.a == 0) false h false ∧
      s.keepsRegs t [.a] ∧ t.sp = s.sp ∧ t.pc = s.pc ∧ t.cost = src.cost ∧ s.keepsRest t

/-- R451, R452, R453, R454. INC and DEC of a register or (HL): the value modulo 2^8, Z, N, H, and C kept; on (HL) one read and
one store at HL. -/
def Obligations.IncrementByte : Prop :=
  ∀ op i p d, (op, i, p) ∈ rowsInc8 ∧ d = (1 : Byte) ∨ (op, i, p) ∈ rowsDec8 ∧ d = 0xFF →
    (∀ b2 b3, decodeBytes op b2 b3 = i) ∧
    ∀ s : State, s.storesFatal (s.placeStores p (s.readPlace p + d)) = false → ∃ t, exec i s = .next t ∧
      s.placeGets t p (s.readPlace p + d) ∧
      t.hasFlags (s.readPlace p + d == 0) (decide (d = 0xFF))
        (decide ((s.readPlace p).toNat % 16 = if d = 1 then 15 else 0)) s.flagC ∧
      s.keepsRegs t p.regs ∧ t.sp = s.sp ∧ t.pc = s.pc ∧ t.cost = p.cost 4 12 ∧
      s.keepsRestBut (s.placeStores p (s.readPlace p + d)) t

/-- R455. DAA: the correction from N, H, C and A, the new carry, Z - 0 C. -/
def Obligations.DecimalAdjust : Prop :=
  (∀ b2 b3, decodeBytes 0x27 b2 b3 = .daa) ∧
  ∀ s : State, ∃ t, exec .daa s = .next t ∧
    (let a := s.regs.a.toNat
     let high := s.flagC || (!s.flagN && decide (a > 0x99))
     let low := s.flagH || (!s.flagN && decide (a % 16 > 9))
     let fix := (if high then 0x60 else 0) + (if low then 0x06 else 0)
     t.regs.a.toNat = (if s.flagN then a + 512 - fix else a + fix) % 256 ∧
     t.hasFlags (t.regs.a == 0) s.flagN false high) ∧
    s.keepsRegs t [.a] ∧ t.sp = s.sp ∧ t.pc = s.pc ∧ t.cost = 4 ∧ s.keepsRest t

/-- R443 to R446 with R455, together: ADD or ADC of two packed decimal bytes then DAA is their decimal sum with the decimal
carry, and SUB or SBC then DAA their decimal difference with the decimal borrow. -/
def Obligations.DecimalArithmetic : Prop :=
  ∀ (s : State) (x y : Nat), x < 100 → y < 100 → s.regs.a.toNat = x / 10 * 16 + x % 10 →
    s.regs.b.toNat = y / 10 * 16 + y % 10 →
    (∃ t u, exec .adc_A_B s = .next t ∧ exec .daa t = .next u ∧
      (let sum := x + y + s.flagC.toNat
       u.regs.a.toNat = sum % 100 / 10 * 16 + sum % 10 ∧ u.flagC = decide (100 ≤ sum))) ∧
    ∃ t u, exec .sbc_A_B s = .next t ∧ exec .daa t = .next u ∧
      (let diff := x + 200 - y - s.flagC.toNat
       u.regs.a.toNat = diff % 100 / 10 * 16 + diff % 10 ∧ u.flagC = decide (x < y + s.flagC.toNat))

/-- R456, R457, R458. CPL (- 1 1 -), SCF (- 0 0 1), CCF (- 0 0 C'). -/
def Obligations.ComplementAndCarry : Prop :=
  (∀ b2 b3, decodeBytes 0x2F b2 b3 = .cpl ∧ decodeBytes 0x37 b2 b3 = .scf ∧ decodeBytes 0x3F b2 b3 = .ccf) ∧
  ∀ s : State,
    (∃ t, exec .cpl s = .next t ∧ t.regs.a.toNat = 255 - s.regs.a.toNat ∧ t.hasFlags s.flagZ true true s.flagC ∧
      s.keepsRegs t [.a] ∧ t.sp = s.sp ∧ t.pc = s.pc ∧ t.cost = 4 ∧ s.keepsRest t) ∧
    (∃ t, exec .scf s = .next t ∧ t.hasFlags s.flagZ false false true ∧ s.keepsRegs t [] ∧ t.sp = s.sp ∧
      t.pc = s.pc ∧ t.cost = 4 ∧ s.keepsRest t) ∧
    ∃ t, exec .ccf s = .next t ∧ t.hasFlags s.flagZ false false (!s.flagC) ∧ s.keepsRegs t [] ∧ t.sp = s.sp ∧
      t.pc = s.pc ∧ t.cost = 4 ∧ s.keepsRest t

/-! ## 16-bit arithmetic -/

/-- 42_alu16.md R480, R481, R482. `ADD HL,rr` (- 0 H C, H out of bit 11, C out of bit 15), `INC rr` and `DEC rr` (no flag). -/
def Obligations.PairArithmetic : Prop :=
  (∀ op i p, (op, i, p) ∈ rowsAddHL → (∀ b2 b3, decodeBytes op b2 b3 = i) ∧
    ∀ s : State, ∃ t, exec i s = .next t ∧ t.hl.toNat = (s.hl.toNat + (s.pair p).toNat) % 65536 ∧
      t.hasFlags s.flagZ false (decide (s.hl.toNat % 4096 + (s.pair p).toNat % 4096 > 4095))
        (decide (s.hl.toNat + (s.pair p).toNat > 65535)) ∧
      s.keepsRegs t [.h, .l] ∧ t.sp = s.sp ∧ t.pc = s.pc ∧ t.cost = 8 ∧ s.keepsRest t) ∧
  ∀ op i p d, (op, i, p) ∈ rowsIncPair ∧ d = (1 : Word) ∨ (op, i, p) ∈ rowsDecPair ∧ d = 0xFFFF →
    (∀ b2 b3, decodeBytes op b2 b3 = i) ∧
    ∀ s : State, ∃ t, exec i s = .next t ∧ t.pair p = s.pair p + d ∧ s.keepsRegs t p.halves ∧ s.keepsFlags t ∧
      (p ≠ .sp → t.sp = s.sp) ∧ t.pc = s.pc ∧ t.cost = 8 ∧ s.keepsRest t

/-- R483, R484, R485. `ADD SP,e8` and `LD HL,SP+e8`: SP plus the signed byte modulo 2^16; 0 0 H C from the unsigned sum of the
low bytes. -/
def Obligations.StackPointerOffset : Prop :=
  ∀ e : Byte, (∀ b3, decodeBytes 0xE8 e b3 = .add_SP_e8 e ∧ decodeBytes 0xF8 e b3 = .ld_HL_SPe8 e) ∧
    ∀ s : State,
      (let res := ((s.sp.toNat : Int) + e.toInt) % 65536
       let h := decide (s.sp.toNat % 16 + e.toNat % 16 > 15)
       let c := decide (s.sp.toNat % 256 + e.toNat > 255)
       (∃ t, exec (.add_SP_e8 e) s = .next t ∧ (t.sp.toNat : Int) = res ∧ t.hasFlags false false h c ∧
          s.keepsRegs t [] ∧ t.pc = s.pc ∧ t.cost = 16 ∧ s.keepsRest t) ∧
       ∃ t, exec (.ld_HL_SPe8 e) s = .next t ∧ (t.hl.toNat : Int) = res ∧ t.hasFlags false false h c ∧
          s.keepsRegs t [.h, .l] ∧ t.sp = s.sp ∧ t.pc = s.pc ∧ t.cost = 12 ∧ s.keepsRest t)

/-! ## Rotates, shifts and bits -/

/-- 43_rotate_shift_bit.md R500, R501, R502, R503. RLCA, RRCA, RLA, RRA: 0 0 0 C, Z cleared even for a zero result. -/
def Obligations.RotateAccumulator : Prop :=
  ∀ op i y, (op, i, y) ∈ [((0x07 : Byte), Instr.rlca, 0), (0x0F, .rrca, 1), (0x17, .rla, 2), (0x1F, .rra, 3)] →
    (∀ b2 b3, decodeBytes op b2 b3 = i) ∧
    ∀ s : State, ∃ t, exec i s = .next t ∧ t.regs.a.toNat = (shiftValue y s.regs.a.toNat s.flagC).1 ∧
      t.hasFlags false false false (shiftValue y s.regs.a.toNat s.flagC).2 ∧
      s.keepsRegs t [.a] ∧ t.sp = s.sp ∧ t.pc = s.pc ∧ t.cost = 4 ∧ s.keepsRest t

/-- R504 to R512. The rotates and shifts of the CB table on a register or (HL): Z 0 0 C; on (HL) one read and one store at
HL. -/
def Obligations.ShiftOperand : Prop :=
  ∀ op i y p, (op, i, y, p) ∈ rowsShift → (∀ b3, decodeBytes 0xCB op b3 = i) ∧
    ∀ s : State,
      (let r := shiftValue y (s.readPlace p).toNat s.flagC
       let v := BitVec.ofNat 8 r.1
       s.storesFatal (s.placeStores p v) = false → ∃ t, exec i s = .next t ∧ v.toNat = r.1 ∧ s.placeGets t p v ∧
         t.hasFlags (v == 0) false false r.2 ∧ s.keepsRegs t p.regs ∧ t.sp = s.sp ∧ t.pc = s.pc ∧
         t.cost = p.cost 8 16 ∧ s.keepsRestBut (s.placeStores p v) t)

/-- R513. `BIT b,r`: Z is the complement of bit b, 0 1 -; nothing is written back, also for (HL). -/
def Obligations.TestBit : Prop :=
  ∀ op i b p, (op, i, b, p) ∈ rowsBit → (∀ b3, decodeBytes 0xCB op b3 = i) ∧
    ∀ s : State, ∃ t, exec i s = .next t ∧ t.hasFlags (!(s.readPlace p).getLsbD b) false true s.flagC ∧
      s.keepsRegs t [] ∧ t.sp = s.sp ∧ t.pc = s.pc ∧ t.cost = p.cost 8 12 ∧ s.keepsRest t

/-- R514, R515. `RES b,r` and `SET b,r`: bit b becomes 0 or 1, every other bit and every flag is kept; on (HL) one read and one
store at HL. -/
def Obligations.ResetAndSetBit : Prop :=
  ∀ op i b p (one : Bool), (op, i, b, p) ∈ rowsRes ∧ one = false ∨ (op, i, b, p) ∈ rowsSet ∧ one = true →
    (∀ b3, decodeBytes 0xCB op b3 = i) ∧
    ∀ (s : State) (v : Byte), (∀ k < 8, v.getLsbD k = if k = b then one else (s.readPlace p).getLsbD k) →
      s.storesFatal (s.placeStores p v) = false → ∃ t, exec i s = .next t ∧ s.placeGets t p v ∧ s.keepsFlags t ∧
        s.keepsRegs t p.regs ∧ t.sp = s.sp ∧ t.pc = s.pc ∧ t.cost = p.cost 8 16 ∧
        s.keepsRestBut (s.placeStores p v) t

/-- 45_system.md R575, R317. The prefix: the byte at PC is fetched and the CB instruction it names is executed, whatever it
is. -/
def Obligations.PrefixDispatch : Prop :=
  ∀ s : State, ∃ t, exec .cb_prefix s = .next t ∧
    exec (decodeBytes 0xCB (s.read s.pc) 0) { s with pc := s.pc + 1 } = .next t

/-! ## Control transfer -/

/-- 44_control.md R540 to R545. The jumps: taken when the condition holds on the flags before the instruction, PC left at the
following instruction otherwise, and the cycles of each case. -/
def Obligations.Jumps : Prop :=
  (∀ s : State, s.cond .nz = !s.flagZ ∧ s.cond .z = s.flagZ ∧ s.cond .nc = !s.flagC ∧ s.cond .c = s.flagC) ∧
  (∀ b2 b3, decodeBytes 0xC3 b2 b3 = .jp_n16 (word16 b3 b2) ∧ decodeBytes 0xE9 b2 b3 = .jp_HL ∧
    decodeBytes 0x18 b2 b3 = .jr_e8 b2 ∧
    (∀ op i cc, (op, i, cc) ∈ rowsJpIf (word16 b3 b2) ∨ (op, i, cc) ∈ rowsJrIf b2 → decodeBytes op b2 b3 = i)) ∧
  ∀ (s : State) (nn : Word) (e : Byte),
    (∃ t, exec (.jp_n16 nn) s = .next t ∧ t.pc = nn ∧ t.cost = 16 ∧ s.keepsRegs t [] ∧ s.keepsFlags t ∧ t.sp = s.sp ∧
      s.keepsRest t) ∧
    (∃ t, exec .jp_HL s = .next t ∧ t.pc = s.hl ∧ t.cost = 4 ∧ s.keepsRegs t [] ∧ s.keepsFlags t ∧ t.sp = s.sp ∧
      s.keepsRest t) ∧
    (∃ t, exec (.jr_e8 e) s = .next t ∧ (t.pc.toNat : Int) = ((s.pc.toNat : Int) + e.toInt) % 65536 ∧ t.cost = 12 ∧
      s.keepsRegs t [] ∧ s.keepsFlags t ∧ t.sp = s.sp ∧ s.keepsRest t) ∧
    (∀ op i cc, (op, i, cc) ∈ rowsJpIf nn → ∃ t, exec i s = .next t ∧ t.pc = (if s.cond cc then nn else s.pc) ∧
      t.cost = (if s.cond cc then 16 else 12) ∧ s.keepsRegs t [] ∧ s.keepsFlags t ∧ t.sp = s.sp ∧ s.keepsRest t) ∧
    ∀ op i cc, (op, i, cc) ∈ rowsJrIf e → ∃ t, exec i s = .next t ∧
      (t.pc.toNat : Int) = (if s.cond cc then ((s.pc.toNat : Int) + e.toInt) % 65536 else s.pc.toNat) ∧
      t.cost = (if s.cond cc then 12 else 8) ∧ s.keepsRegs t [] ∧ s.keepsFlags t ∧ t.sp = s.sp ∧ s.keepsRest t

/-- R546, R547, R551. CALL, CALL cc and RST: the address of the following instruction is pushed and PC goes to the target; a
CALL cc not taken writes no memory and leaves SP. -/
def Obligations.CallsAndRestarts : Prop :=
  (∀ b2 b3, decodeBytes 0xCD b2 b3 = .call_n16 (word16 b3 b2) ∧
    (∀ op i cc, (op, i, cc) ∈ rowsCallIf (word16 b3 b2) → decodeBytes op b2 b3 = i) ∧
    ∀ op i target, (op, i, target) ∈ rowsRst → decodeBytes op b2 b3 = i) ∧
  ∀ (s : State) (nn : Word),
    (∀ i target cycles,
      (i, target, cycles) = (Instr.call_n16 nn, nn, 24) ∨
        (∃ op cc, (op, i, cc) ∈ rowsCallIf nn ∧ s.cond cc = true ∧ target = nn ∧ cycles = 24) ∨
        (∃ op, (op, i, target) ∈ rowsRst ∧ cycles = 16) →
      s.storesFatal (pushStores s.sp s.pc) = false →
      ∃ t, exec i s = .next t ∧ t.pc = target ∧ t.sp = s.sp - 2 ∧ t.cost = cycles ∧ s.keepsRegs t [] ∧
        s.keepsFlags t ∧ s.keepsRestBut (pushStores s.sp s.pc) t) ∧
    ∀ op i cc, (op, i, cc) ∈ rowsCallIf nn → s.cond cc = false → ∃ t, exec i s = .next t ∧ t.pc = s.pc ∧
      t.sp = s.sp ∧ t.cost = 12 ∧ s.keepsRegs t [] ∧ s.keepsFlags t ∧ s.keepsRest t

/-- R548, R549, R550. RET, RET cc and RETI: PC is popped; RETI sets IME at once and leaves the pending enable and IF. -/
def Obligations.Returns : Prop :=
  (∀ b2 b3, decodeBytes 0xC9 b2 b3 = .ret ∧ decodeBytes 0xD9 b2 b3 = .reti ∧
    ∀ op i cc, (op, i, cc) ∈ rowsRetIf → decodeBytes op b2 b3 = i) ∧
  ∀ s : State,
    (∃ t, exec .ret s = .next t ∧ t.pc = word16 (s.read (s.sp + 1)) (s.read s.sp) ∧ t.sp = s.sp + 2 ∧ t.cost = 16 ∧
      s.keepsRegs t [] ∧ s.keepsFlags t ∧ s.keepsRest t) ∧
    (∃ t, exec .reti s = .next t ∧ t.pc = word16 (s.read (s.sp + 1)) (s.read s.sp) ∧ t.sp = s.sp + 2 ∧ t.cost = 16 ∧
      t.ime = true ∧ s.keepsRegs t [] ∧ s.keepsFlags t ∧ State.keepsRest { s with ime := true } t) ∧
    ∀ op i cc, (op, i, cc) ∈ rowsRetIf → ∃ t, exec i s = .next t ∧
      t.pc = (if s.cond cc then word16 (s.read (s.sp + 1)) (s.read s.sp) else s.pc) ∧
      t.sp = (if s.cond cc then s.sp + 2 else s.sp) ∧ t.cost = (if s.cond cc then 20 else 8) ∧
      s.keepsRegs t [] ∧ s.keepsFlags t ∧ s.keepsRest t

/-- R548 (its corner case), from every state of the invariant: a CALL or an RST whose return address lands on plain storage,
then RET, comes back to the following instruction with SP restored. -/
def Obligations.CallReturnRoundTrip : Prop :=
  ∀ (s : State) (i : Instr), (∃ nn, i = .call_n16 nn) ∨ (∃ op target, (op, i, target) ∈ rowsRst) → s.Inv →
    s.mmu.holds (s.sp - 1) = true → s.mmu.holds (s.sp - 2) = true →
    ∃ t u, exec i s = .next t ∧ exec .ret t = .next u ∧ u.pc = s.pc ∧ u.sp = s.sp ∧ s.keepsRegs u [] ∧ s.keepsFlags u

/-! ## System instructions -/

/-- 45_system.md R570, R573, with the immediate effects of R571 and R574: NOP changes nothing, HALT sets `halted`, DI clears
IME and the pending enable, EI sets the pending enable and leaves IME. -/
def Obligations.NopHaltDiEi : Prop :=
  (∀ b2 b3, decodeBytes 0x00 b2 b3 = .nop ∧ decodeBytes 0x76 b2 b3 = .halt ∧ decodeBytes 0xF3 b2 b3 = .di ∧
    decodeBytes 0xFB b2 b3 = .ei) ∧
  ∀ (s : State) (i : Instr) (t : State),
    (i, t) ∈ [(Instr.nop, { s with cost := 4 }), (.halt, { s with halted := true, cost := 4 }),
      (.di, { s with ime := false, imePending := false, cost := 4 }), (.ei, { s with imePending := true, cost := 4 })] →
    exec i s = .next t ∧ ∀ x, t.read x = s.read x

/-- R574, R107. The step after EI runs its instruction with IME set and the pending enable cleared, unless it is the dispatch of
an interrupt that IME already allowed; when IME was clear no interrupt is dispatched in that step. -/
def Obligations.EnableTakesOneInstruction : Prop :=
  ∀ s : State, s.fault = none → s.imePending = true → s.halted = false → s.pc ∉ s.config.breakpoints →
    s.ime = false ∨ s.mmu.readySource = none →
    s.stepCycles = exec (decodeBytes (s.read s.pc) (s.read (s.pc + 1)) (s.read (s.pc + 2)))
      { s with ime := true, imePending := false, pc := s.pc + BitVec.ofNat 16 (instrLength (s.read s.pc)) }

/-- R572. STOP: the ignored byte when STOP_LENGTH is 2; fatal F6 in DMG mode, whatever KEY1 holds; in CGB mode the speed switch
when armed, nothing otherwise. -/
def Obligations.StopInstruction : Prop :=
  (∀ b2 b3, decodeBytes 0x10 b2 b3 = .stop) ∧
  ∀ s : State,
    (let past := s.pc + (if s.config.stopLength = .two then 1 else 0)
     (s.mmu.cgb = false → exec .stop s = .next { s with pc := past, fault := some (.f6StopOnDmg (s.pc - 1)) }) ∧
     (s.mmu.cgb = true → s.mmu.key1Armed = false → exec .stop s = .next { s with pc := past, cost := 4 }) ∧
     (s.mmu.cgb = true → s.mmu.key1Armed = true → ∃ t, exec .stop s = .next t ∧
       t = { s with pc := past, cost := 4, mmu := { s.mmu with doubleSpeed := !s.mmu.doubleSpeed, key1Armed := false } } ∧
       ∀ x : Word, x ≠ 0xFF4D → t.read x = s.read x))

/-- R316, R576. The eleven illegal values record F1, the opcode and its address, and change nothing else. -/
def Obligations.IllegalOpcodes : Prop :=
  ∀ op i, (op, i) ∈ rowsIllegal → (∀ b2 b3, decodeBytes op b2 b3 = i) ∧
    ∀ s : State, ∃ t, exec i s = .next t ∧ t = { s with fault := some (.f1UndefinedOpcode op (s.pc - 1)) } ∧
      ∀ x, t.read x = s.read x

/-- R600, R602, R317, R618. Every instruction, from every state, answers a next state; a fatal condition it raises is F1 of an
illegal opcode, F6 of STOP in DMG mode, or F5 of a byte with bit 7 set in CGB mode, and nothing else is fatal. -/
def Obligations.EveryInstructionAnswers : Prop :=
  ∀ (i : Instr) (s : State), ∃ t, exec i s = .next t ∧
    (s.fault = none → t.fault = none ∨
      (∃ op, (op, i) ∈ rowsIllegal ∧ t.fault = some (.f1UndefinedOpcode op (s.pc - 1))) ∨
      (i = .stop ∧ s.mmu.cgb = false ∧ t.fault = some (.f6StopOnDmg (s.pc - 1))) ∨
      ∃ v : Byte, s.mmu.cgb = true ∧ v.getLsbD 7 = true ∧ t.fault = some (.f5HblankDma v))

/-- R675 with R16, for every form that stores: a store that asks for the H-blank-paced VRAM DMA records F5 and its value; the
store and what follows it are not performed, what came before it is (a push: SP's first decrement, then the high byte; the
dispatch of an interrupt has also cleared IME and `halted`, and has not cleared the request). Of `INC (HL)`, `DEC (HL)` and the CB forms only the flags are left unsaid there (assumption 7). -/
def Obligations.FatalStores : Prop :=
  (∀ (m : Mmu) (a : Word) (v : Byte),
    m.hblankDmaRequest a v = (m.cgb && decide (a = 0xFF55) && decide (128 ≤ v.toNat))) ∧
  ∀ s : State,
    (∀ b2 b3 op i addr value cycles, (op, i, addr, value, cycles) ∈ rowsStore b2 b3 →
      s.storesFatal [(addr s, value s)] = true → exec i s = .next { s with fault := some (.f5HblankDma (value s)) }) ∧
    (∀ i, i = .ld_mHLinc_A ∨ i = .ld_mHLdec_A → s.storesFatal [(s.hl, s.regs.a)] = true →
      exec i s = .next { s with fault := some (.f5HblankDma s.regs.a) }) ∧
    (∀ i v, (∃ op, (op, i, .memHL) ∈ rowsInc8 ∧ v = s.read s.hl + 1) ∨ (∃ op, (op, i, .memHL) ∈ rowsDec8 ∧ v = s.read s.hl - 1) ∨
        (∃ op y, (op, i, y, .memHL) ∈ rowsShift ∧ v = BitVec.ofNat 8 (shiftValue y (s.read s.hl).toNat s.flagC).1) ∨
        (∃ op b, (op, i, b, .memHL) ∈ rowsRes ∧ v = s.read s.hl &&& ~~~(1#8 <<< b)) ∨
        (∃ op b, (op, i, b, .memHL) ∈ rowsSet ∧ v = s.read s.hl ||| (1#8 <<< b)) →
      s.storesFatal [(s.hl, v)] = true →
      ∃ t, exec i s = .next t ∧ t = { s with regs := t.regs, fault := some (.f5HblankDma v) } ∧ s.keepsRegs t []) ∧
    (∀ nn : Word, (s.mmu.hblankDmaRequest nn (s.sp.setWidth 8) = true →
        exec (.ld_mN16_SP nn) s = .next { s with fault := some (.f5HblankDma (s.sp.setWidth 8)) }) ∧
      (s.mmu.hblankDmaRequest nn (s.sp.setWidth 8) = false →
        (s.store nn (s.sp.setWidth 8)).mmu.hblankDmaRequest (nn + 1) ((s.sp >>> 8).setWidth 8) = true →
        exec (.ld_mN16_SP nn) s =
          .next { s.store nn (s.sp.setWidth 8) with fault := some (.f5HblankDma ((s.sp >>> 8).setWidth 8)) })) ∧
    (∀ i w, (∃ op p, (op, i, p) ∈ rowsPush ∧ w = s.stackPair p) ∨
        w = s.pc ∧ ((∃ nn, i = .call_n16 nn ∨ ∃ op cc, (op, i, cc) ∈ rowsCallIf nn ∧ s.cond cc = true) ∨
          ∃ op target, (op, i, target) ∈ rowsRst) →
      (let high : Byte := (w >>> 8).setWidth 8
       let low : Byte := w.setWidth 8
       (s.mmu.hblankDmaRequest (s.sp - 1) high = true →
         exec i s = .next { s with sp := s.sp - 1, fault := some (.f5HblankDma high) }) ∧
       (s.mmu.hblankDmaRequest (s.sp - 1) high = false →
         (s.store (s.sp - 1) high).mmu.hblankDmaRequest (s.sp - 2) low = true →
         exec i s = .next { s.store (s.sp - 1) high with sp := s.sp - 2, fault := some (.f5HblankDma low) }))) ∧
    (s.ime = true → (∃ x, s.mmu.isReady x = true) →
      (let high : Byte := (s.pc >>> 8).setWidth 8
       let low : Byte := s.pc.setWidth 8
       (s.mmu.hblankDmaRequest (s.sp - 1) high = true → s.stepCycles =
         .next { s with ime := false, halted := false, sp := s.sp - 1, fault := some (.f5HblankDma high) }) ∧
       (s.mmu.hblankDmaRequest (s.sp - 1) high = false →
         (s.store (s.sp - 1) high).mmu.hblankDmaRequest (s.sp - 2) low = true → s.stepCycles =
         .next { s.store (s.sp - 1) high with
           ime := false, halted := false, sp := s.sp - 2, fault := some (.f5HblankDma low) })))

/-! ## Decoding and the step -/

/-- 30_encoding.md R300 to R315, on a few words written out from their fields: one or two of each family. The numbering of the
words (a CB row's first byte in bits 15-8, any other row's in bits 7-0: assumption 11) and the refusal `truncated` of a byte
string that ends inside an instruction (assumption 19) are the model's own. -/
def Obligations.DecodeWords : Prop :=
  (∀ nbits w i, (nbits, w, i) ∈
    [(8, 0b01000001, Instr.ld_B_C), (8, 0b01110110, .halt), (16, 0x5A3E, .ld_A_n8 0x5A), (24, 0x123401, .ld_BC_n16 0x1234),
     (24, 0xC00008, .ld_mN16_SP 0xC000), (16, 0x46E0, .ldh_mN8_A 0x46), (8, 0b11000101, .push_BC), (8, 0b10001110, .adc_A_mHL),
     (8, 0b00110101, .dec_mHL), (8, 0b00111001, .add_HL_SP), (16, 0xFEE8, .add_SP_e8 0xFE), (8, 0b00011111, .rra),
     (16, 0xCB46, .bit_0_mHL), (16, 0xCB37, .swap_A), (24, 0x0150C3, .jp_n16 0x0150), (16, 0xFB20, .jr_NZ_e8 0xFB),
     (8, 0b11101111, .rst_28), (8, 0b11110011, .di), (8, 0xFD, .illegal_FD)] →
    decodeTableWord nbits w = some i) ∧
  decode [] = .error .truncated ∧ decode [0xCB] = .error .truncated ∧ decode [0xC3, 0x50] = .error .truncated

/-- 30_encoding.md R300, R301, R314 to R319. Decoding and encoding agree: every instruction is read back from its bytes, with
every operand, whatever bytes follow; and every byte string of the longest instruction's length decodes to an instruction
whose encoding is the bytes it takes. -/
def Obligations.EncodeDecode : Prop :=
  (∀ (i : Instr) (rest : List Byte), i.wellFormed = true → decode (encode i ++ rest) = .ok (i, rest)) ∧
  ∀ b b2 b3 : Byte, (decodeBytes b b2 b3).wellFormed = true ∧
    encode (decodeBytes b b2 b3) = [b, b2, b3].take (instrLength b) ∧
    (instrLength b = 1 ∨ instrLength b = 2 ∨ instrLength b = 3)

/-- 60_exceptions.md R612, R614 as the model composes them (assumption 9): when no interrupt is dispatched, the CPU is not
halted and no breakpoint is hit, a step is the decoded instruction's `exec` with the pending enable applied and PC past its
bytes; then, unless a fatal condition was raised, the video controller takes the cost, halved in double speed as it was before
the step, and then the MMU takes the whole cost. -/
def Obligations.StepRunsDecoded : Prop :=
  ∀ (s s0 : State) (i : Instr) (rest : List Byte), s0 = s.takeKeyEvents → s.fault = none → s0.halted = false →
    s0.ime = false ∨ s0.mmu.readySource = none → s0.pc ∉ s0.config.breakpoints →
    decode [s0.read s0.pc, s0.read (s0.pc + 1), s0.read (s0.pc + 2)] = .ok (i, rest) →
    ∃ t, exec i { s0 with ime := s0.ime || s0.imePending, imePending := false,
                          pc := s0.pc + BitVec.ofNat 16 (encode i).length } = .next t ∧
      step s = .next (if t.fault.isSome then t else
        { t with mmu := (t.mmu.videoStep t.config (if s.mmu.doubleSpeed then t.cost / 2 else t.cost)).step t.config t.cost })

/-! ## Interrupts, faults and the whole machine -/

/-- 60_exceptions.md R605, R607. The interrupt check, looking at the first source with its IE and IF bits set: with IME set a
dispatch, which pushes PC and changes PC, SP, IME, `halted`, that bit of IF and nothing else; with IME clear a wake from HALT, or
no effect. With no ready source a halted CPU ticks (45_system.md R571). The vectors and costs are those of the rule. -/
def Obligations.InterruptCheck : Prop :=
  ∀ s : State,
    (∀ i : Source, s.mmu.isReady i = ((s.read 0xFFFF).getLsbD i.index && (s.read 0xFF0F).getLsbD i.index) ∧ i.index < 5) ∧
    (∀ i : Source, s.mmu.isReady i = true → (∀ j : Source, j.index < i.index → s.mmu.isReady j = false) →
      (s.ime = true → s.storesFatal (pushStores s.sp s.pc) = false → ∃ t, s.stepCycles = .next t ∧
        t.pc = BitVec.ofNat 16 (0x0040 + 8 * i.index) ∧ t.sp = s.sp - 2 ∧ t.cost = (if s.halted then 24 else 20) ∧
        (∀ k < 5, t.mmu.intFlag.getLsbD k =
          ((State.storeList (pushStores s.sp s.pc) s).mmu.intFlag.getLsbD k && decide (k ≠ i.index))) ∧
        t = { s with ime := false, halted := false, pc := t.pc, sp := t.sp, cost := t.cost,
                     mmu := { (State.storeList (pushStores s.sp s.pc) s).mmu with intFlag := t.mmu.intFlag } } ∧
        ∀ x : Word, x ≠ 0xFF0F → State.storesTouch (pushStores s.sp s.pc) s x = false → t.read x = s.read x) ∧
      (s.ime = false → s.halted = true → s.stepCycles = .next { s with halted := false, cost := 4 }) ∧
      (s.ime = false → s.halted = false → s.stepCycles = s.runOne)) ∧
    ((∀ i, s.mmu.isReady i = false) → s.stepCycles = s.runOne) ∧
    (s.halted = true → s.runOne = .next { s with cost := 4 })

/-- 10_state.md R110 (with 60_exceptions.md R601): in the fault state no step is taken, so `fault` never changes again and no
frame completes; the step that enters it steps no peripheral. -/
def Obligations.FaultAbsorbing : Prop :=
  (∀ s f, s.fault = some f → step s = .fault f ∧ (∀ t, Reaches s t → t = s) ∧ ∀ fuel, runOneFrame fuel s = none) ∧
  (∀ s t f, step s = .next t → t.fault = some f → s.takeKeyEvents.stepCycles = .next t ∧ f.code ∈ [1, 5, 6]) ∧
  State.reset.fault = none ∧ ∀ f : Fault, 1 ≤ f.code ∧ f.code ≤ 8

/-- 20_memory.md R257 and 10_state.md R109, with the one-way changes of R4, R10, R151 and R202: a step leaves the parameters,
the mode, the boot ROM, the cartridge's image, counts, sizes and variant; boot mode never comes back; the speed changes only
by a STOP with KEY1.0 set in CGB mode, and shows as KEY1.7. -/
def Obligations.FixedForLife : Prop :=
  (∀ s t, step s = .next t →
    t.config = s.config ∧ t.mmu.cgb = s.mmu.cgb ∧ t.mmu.bootRom = s.mmu.bootRom ∧ t.mmu.cart.rom = s.mmu.cart.rom ∧
      t.mmu.cart.nRom = s.mmu.cart.nRom ∧ t.mmu.cart.nRam = s.mmu.cart.nRam ∧ t.mmu.cart.sRam = s.mmu.cart.sRam ∧
      t.mmu.cart.mapper.variant = s.mmu.cart.mapper.variant ∧ (s.mmu.bootMode = false → t.mmu.bootMode = false) ∧
      (t.mmu.doubleSpeed ≠ s.mmu.doubleSpeed → ∃ u : State, u = s.takeKeyEvents.applyPendingEnable.debugHook ∧
        decodeBytes (u.read u.pc) (u.read (u.pc + 1)) (u.read (u.pc + 2)) = .stop ∧ u.mmu.cgb = true ∧
        u.mmu.key1Armed = true)) ∧
  (∀ s : State, s.mmu.cgb = true → (s.read 0xFF4D).getLsbD 7 = s.mmu.doubleSpeed) ∧ State.reset.mmu.doubleSpeed = false

/-- 60_exceptions.md R613, an inference of the spec from R612 and R605: every step that ends without a fatal condition costs at
least 4 cycles, at most 24, and a multiple of 4. -/
def Obligations.StepCost : Prop :=
  ∀ s t, step s = .next t → t.fault = none → 4 ≤ t.cost ∧ t.cost ≤ 24 ∧ t.cost % 4 = 0

/-- The invariant of every step (Safety.lean): F's low nibble, the selectors, the accumulators, the controller's mode windows,
the sprite list, the DMA cursors, the canonical form and the bounds of every storage array, what DMG mode has not, and, without
a fatal condition, what a whole step settles. -/
def Obligations.InvariantKept : Prop := ∀ s t : State, s.Inv → step s = .next t → t.Inv

/-- The invariant holds of the state after reset (assumption 3 names its images). -/
def Obligations.InvariantAtReset : Prop := State.reset.Inv

/-- The invariant holds of every loaded machine whose images are given in canonical form and within their sizes. -/
def Obligations.InvariantAfterLoad : Prop :=
  ∀ (cfg : Config) (cart save : Image) (boot : Option Memory) (ram : InitialRam) (s : State),
    cart.bytes.fits cart.size → save.bytes.wf = true → (∀ b, boot = some b → b.wf = true) →
    ram.wram.fits 0x8000 → ram.vram.fits 0x4000 → ram.oam.fits 160 → ram.hram.fits 127 → ram.bgPram.fits 64 →
    ram.obPram.fits 64 →
    (cgbFlag (cart.bytes.read 0x143) = false → ram.wram.within 0x2000 = true ∧ ram.vram.within 0x2000 = true) →
    load cfg cart save boot ram = .next s → s.Inv

/-! ## Memory -/

/-- 20_memory.md R201, R203, R208, R210, R214. What every address reads as: the first region that holds it, the boot overlay
first, the banks of VRAM and WRAM selected in CGB mode only, the blocked reads; the external RAM and ROM windows go through the
controller (BankControllers), the I/O page through its registers (IoRegisters, MoreRegisters). -/
def Obligations.MemoryReads : Prop :=
  ∀ (s : State) (a : Word),
    (let n := a.toNat
     let overlaid := s.mmu.bootMode = true ∧ (n < 0x100 ∨ s.mmu.cgb = true ∧ 0x200 ≤ n ∧ n < 0x900)
     let vbank := if s.mmu.cgb then s.mmu.video.vbk.toNat else 0
     let wbank := if s.mmu.cgb then (if s.mmu.svbk = 0 then 1 else s.mmu.svbk.toNat) else 1
     let lcdOn := s.mmu.video.lcdc.getLsbD 7 = true
     (overlaid → s.read a = s.mmu.bootRom.read n) ∧
     (¬ overlaid → n < 0x8000 → s.read a = s.mmu.cart.rom.read (s.mmu.cart.romIndex n)) ∧
     (0x8000 ≤ n → n < 0xA000 → s.read a =
       if lcdOn ∧ s.mmu.video.mode = .transfer then s.config.blockedRead
       else s.mmu.video.vram.read (vbank * 0x2000 + (n - 0x8000))) ∧
     (0xA000 ≤ n → n < 0xC000 → s.read a =
       match s.mmu.cart.ramIndex (n - 0xA000) with
       | some k => s.mmu.cart.ram.read k
       | none => 0xFF) ∧
     (0xC000 ≤ n → n < 0xD000 → s.read a = s.mmu.wram.read (n - 0xC000)) ∧
     (0xD000 ≤ n → n < 0xE000 → s.read a = s.mmu.wram.read (wbank * 0x1000 + (n - 0xD000))) ∧
     (0xE000 ≤ n → n < 0xFE00 → s.read a = s.read (a - 0x2000)) ∧
     (0xFE00 ≤ n → n < 0xFEA0 → s.read a =
       if lcdOn ∧ (s.mmu.video.mode = .oamSearch ∨ s.mmu.video.mode = .transfer) then s.config.blockedRead
       else s.mmu.video.oam.read (n - 0xFE00)) ∧
     (0xFEA0 ≤ n → n < 0xFF00 → s.read a = s.config.unusableRead) ∧
     (0xFF00 ≤ n → n < 0xFF80 → s.read a = s.mmu.ioRead (n - 0xFF00)) ∧
     (0xFF80 ≤ n → n < 0xFFFF → s.read a = s.mmu.hram.read (n - 0xFF80)) ∧
     (n = 0xFFFF → s.read a = s.mmu.intEnable))

/-- 20_memory.md R202. What every store does: below 0x8000 a controller write, boot mode notwithstanding; storage is never
blocked; the unusable range and absent RAM ignore the write. -/
def Obligations.MemoryWrites : Prop :=
  ∀ (s : State) (a : Word) (v : Byte),
    (let n := a.toNat
     let vbank := if s.mmu.cgb then s.mmu.video.vbk.toNat else 0
     let wbank := if s.mmu.cgb then (if s.mmu.svbk = 0 then 1 else s.mmu.svbk.toNat) else 1
     (n < 0x8000 → s.store a v = { s with mmu := { s.mmu with cart := { s.mmu.cart with
        mapper := s.mmu.cart.mapper.control s.config.mbc3ZeroIsOne n v } } }) ∧
     (0x8000 ≤ n → n < 0xA000 → s.store a v = { s with mmu := { s.mmu with video := { s.mmu.video with
        vram := s.mmu.video.vram.write (vbank * 0x2000 + (n - 0x8000)) v } } }) ∧
     (0xA000 ≤ n → n < 0xC000 → s.store a v =
        match s.mmu.cart.ramIndex (n - 0xA000) with
        | some k => { s with mmu := { s.mmu with cart := { s.mmu.cart with ram := s.mmu.cart.ram.write k v } } }
        | none => s) ∧
     (0xC000 ≤ n → n < 0xD000 → s.store a v = { s with mmu := { s.mmu with wram := s.mmu.wram.write (n - 0xC000) v } }) ∧
     (0xD000 ≤ n → n < 0xE000 → s.store a v =
        { s with mmu := { s.mmu with wram := s.mmu.wram.write (wbank * 0x1000 + (n - 0xD000)) v } }) ∧
     (0xE000 ≤ n → n < 0xFE00 → s.store a v = s.store (a - 0x2000) v) ∧
     (0xFE00 ≤ n → n < 0xFEA0 → s.store a v = { s with mmu := { s.mmu with video := { s.mmu.video with
        oam := s.mmu.video.oam.write (n - 0xFE00) v } } }) ∧
     (0xFEA0 ≤ n → n < 0xFF00 → s.store a v = s) ∧
     (0xFF00 ≤ n → n < 0xFF80 → s.store a v = { s with mmu := s.mmu.ioWrite (n - 0xFF00) v }) ∧
     (0xFF80 ≤ n → n < 0xFFFF → s.store a v = { s with mmu := { s.mmu with hram := s.mmu.hram.write (n - 0xFF80) v } }) ∧
     (n = 0xFFFF → s.store a v = { s with mmu := { s.mmu with intEnable := v } }))

/-- 10_state.md R113 to R118, R121 to R123, R125, R126, R136. The registers that read and write as stored fields: what each
address reads, and all a store to it changes. -/
def Obligations.IoRegisters : Prop :=
  ∀ (s : State) (v : Byte),
    (∀ (a : Word) (r : Byte) (m : Mmu), (a, r, m) ∈
      [(0xFF0F, 0xE0#8 ||| s.mmu.intFlag.setWidth 8, { s.mmu with intFlag := v.setWidth 5 }),
       (0xFF04, s.mmu.timer.div, { s.mmu with timer := { s.mmu.timer with div := 0, divAcc := 0 } }),
       (0xFF05, s.mmu.timer.tima, { s.mmu with timer := { s.mmu.timer with tima := v } }),
       (0xFF06, s.mmu.timer.tma, { s.mmu with timer := { s.mmu.timer with tma := v } }),
       (0xFF07, 0xF8#8 ||| s.mmu.timer.tac.setWidth 8, { s.mmu with timer := { s.mmu.timer with tac := v.setWidth 3 } }),
       (0xFF42, s.mmu.video.scy, { s.mmu with video := { s.mmu.video with scy := v } }),
       (0xFF43, s.mmu.video.scx, { s.mmu with video := { s.mmu.video with scx := v } }),
       (0xFF44, s.mmu.video.ly, s.mmu),
       (0xFF45, s.mmu.video.lyc, { s.mmu with video := { s.mmu.video with lyc := v } }),
       (0xFF47, s.mmu.video.bgp, { s.mmu with video := { s.mmu.video with bgp := v } }),
       (0xFF48, s.mmu.video.obp0, { s.mmu with video := { s.mmu.video with obp0 := v } }),
       (0xFF49, s.mmu.video.obp1, { s.mmu with video := { s.mmu.video with obp1 := v } }),
       (0xFF4A, s.mmu.video.wy, { s.mmu with video := { s.mmu.video with wy := v } }),
       (0xFF4B, s.mmu.video.wx, { s.mmu with video := { s.mmu.video with wx := v } }),
       (0xFFFF, s.mmu.intEnable, { s.mmu with intEnable := v })] →
      s.read a = r ∧ s.store a v = { s with mmu := m }) ∧
    (let j := s.mmu.joypad
     let low (on b3 b2 b1 b0 : Bool) : Nat :=
       15 - (if on then 8 * b3.toNat + 4 * b2.toNat + 2 * b1.toNat + b0.toNat else 0)
     (s.read 0xFF00).toNat = 0xC0 + 16 * j.sel.toNat +
         (low (!j.sel.getLsbD 0) j.down j.up j.left j.right &&& low (!j.sel.getLsbD 1) j.start j.select j.b j.a) ∧
       s.store 0xFF00 v = { s with mmu := { s.mmu with joypad := { j with sel := (v >>> 4).setWidth 2 } } })

/-- 10_state.md R120, R124, R127 to R135. STAT, DMA, BOOT, the registers of CGB mode, and plain storage, which they are in DMG mode. A
store to HDMA5 is VramDma and FatalStores. -/
def Obligations.MoreRegisters : Prop :=
  ∀ (s : State) (v : Byte),
    ((s.read 0xFF41).toNat = 128 + 8 * s.mmu.video.statEnable.toNat + 4 * s.mmu.video.coincidence.toNat +
        (match s.mmu.video.mode with | .hblank => 0 | .vblank => 1 | .oamSearch => 2 | .transfer => 3) ∧
      s.store 0xFF41 v = { s with mmu := { s.mmu with video := { s.mmu.video with statEnable := (v >>> 3).setWidth 4 } } }) ∧
    (s.read 0xFF46 = s.mmu.oamDma.reg ∧
      s.store 0xFF46 v = { s with mmu := { s.mmu with oamDma := ⟨v, true, v, 0, 0⟩ } }) ∧
    (s.read 0xFF50 = s.mmu.io.read 0x50 ∧ (s.store 0xFF50 v).read 0xFF50 = v ∧ (s.store 0xFF50 v).mmu.bootMode = false ∧
      s.store 0xFF50 v = { s with mmu := { s.mmu with io := s.mmu.io.write 0x50 v, bootMode := false,
                                                      outputs := (s.store 0xFF50 v).mmu.outputs } }) ∧
    (s.mmu.cgb = true → ∀ (a : Word) (r : Byte) (m : Mmu), (a, r, m) ∈
      [(0xFF4D, (if s.mmu.doubleSpeed then 0x80#8 else 0) ||| 0x7E#8 ||| (if s.mmu.key1Armed then 1#8 else 0),
        { s.mmu with key1Armed := v.getLsbD 0 }),
       (0xFF4F, 0xFE#8 ||| s.mmu.video.vbk.setWidth 8, { s.mmu with video := { s.mmu.video with vbk := v.setWidth 1 } }),
       (0xFF51, 0xFF, { s.mmu with hdma := { s.mmu.hdma with hdma1 := v } }),
       (0xFF52, 0xFF, { s.mmu with hdma := { s.mmu.hdma with hdma2 := v } }),
       (0xFF53, 0xFF, { s.mmu with hdma := { s.mmu.hdma with hdma3 := v } }),
       (0xFF54, 0xFF, { s.mmu with hdma := { s.mmu.hdma with hdma4 := v } }),
       (0xFF68, s.mmu.video.bcps ||| 0x40#8, { s.mmu with video := { s.mmu.video with bcps := v &&& 0xBF#8 } }),
       (0xFF69, s.mmu.video.bgPram.read (s.mmu.video.bcps.toNat % 64),
        { s.mmu with video := { s.mmu.video with
            bgPram := s.mmu.video.bgPram.write (s.mmu.video.bcps.toNat % 64) v,
            bcps := if s.mmu.video.bcps.getLsbD 7 then 0x80#8 + BitVec.ofNat 8 ((s.mmu.video.bcps.toNat % 64 + 1) % 64)
                    else s.mmu.video.bcps } }),
       (0xFF6A, s.mmu.video.ocps ||| 0x40#8, { s.mmu with video := { s.mmu.video with ocps := v &&& 0xBF#8 } }),
       (0xFF6B, s.mmu.video.obPram.read (s.mmu.video.ocps.toNat % 64),
        { s.mmu with video := { s.mmu.video with
            obPram := s.mmu.video.obPram.write (s.mmu.video.ocps.toNat % 64) v,
            ocps := if s.mmu.video.ocps.getLsbD 7 then 0x80#8 + BitVec.ofNat 8 ((s.mmu.video.ocps.toNat % 64 + 1) % 64)
                    else s.mmu.video.ocps } }),
       (0xFF70, 0xF8#8 ||| s.mmu.svbk.setWidth 8, { s.mmu with svbk := v.setWidth 3 })] →
      s.read a = r ∧ s.store a v = { s with mmu := m }) ∧
    (s.mmu.cgb = true → s.read 0xFF55 = 0xFF) ∧
    ∀ k < 0x80,
      k ∉ [0x00, 0x04, 0x05, 0x06, 0x07, 0x0F, 0x40, 0x41, 0x42, 0x43, 0x44, 0x45, 0x46, 0x47, 0x48, 0x49, 0x4A, 0x4B, 0x50] →
      (s.mmu.cgb = true → k ∉ [0x4D, 0x4F, 0x51, 0x52, 0x53, 0x54, 0x55, 0x68, 0x69, 0x6A, 0x6B, 0x70]) →
      s.read (0xFF00 + BitVec.ofNat 16 k) = s.mmu.io.read k ∧
        s.store (0xFF00 + BitVec.ofNat 16 k) v = { s with mmu := { s.mmu with io := s.mmu.io.write k v } } ∧
        (s.store (0xFF00 + BitVec.ofNat 16 k) v).read (0xFF00 + BitVec.ofNat 16 k) = v

/-- 20_memory.md R247 to R254. The bank controllers: what a control write stores, and which byte of the image or of the RAM a
window shows. -/
def Obligations.BankControllers : Prop :=
  ∀ (c : Cartridge) (zeroIsOne : Bool) (n o : Nat) (v : Byte), n < 0x8000 → o < 0x2000 →
    (let on := decide (v.toNat % 16 = 10)
     let window (bank : Nat) := if n < 0x4000 then n else bank % c.nRom * 0x4000 + (n - 0x4000)
     let ram (enabled : Bool) (bank : Nat) :=
       if enabled = true ∧ c.nRam ≠ 0 then some (bank % c.nRam * c.sRam + o % c.sRam) else none
     (c.mapper = .noBank →
       c.romIndex n = n ∧ c.ramIndex o = some o ∧ c.mapper.control zeroIsOne n v = .noBank) ∧
     (∀ en low5 ext2 mode1, c.mapper = .variantA en low5 ext2 mode1 →
       c.romIndex n = window (if mode1 then low5.toNat else 32 * ext2.toNat + low5.toNat) ∧
       c.ramIndex o = ram en (if mode1 then ext2.toNat else 0) ∧
       c.mapper.control zeroIsOne n v =
         if n < 0x2000 then .variantA on low5 ext2 mode1
         else if n < 0x4000 then .variantA en (if v.toNat % 32 = 0 then 1 else BitVec.ofNat 5 (v.toNat % 32)) ext2 mode1
         else if n < 0x6000 then .variantA en low5 (BitVec.ofNat 2 (v.toNat % 4)) mode1
         else .variantA en low5 ext2 (decide (v.toNat % 2 = 1))) ∧
     (∀ en rom7 ram4, c.mapper = .variantB en rom7 ram4 →
       c.romIndex n = window rom7.toNat ∧ c.ramIndex o = ram en ram4.toNat ∧
       c.mapper.control zeroIsOne n v =
         if n < 0x2000 then .variantB on rom7 ram4
         else if n < 0x4000 then
           .variantB en (if v.toNat % 128 = 0 ∧ zeroIsOne = true then 1 else BitVec.ofNat 7 (v.toNat % 128)) ram4
         else if n < 0x6000 then .variantB en rom7 (BitVec.ofNat 4 (v.toNat % 16))
         else .variantB en rom7 ram4) ∧
     ∀ en lo hi ram4, c.mapper = .variantC en lo hi ram4 →
       c.romIndex n = window (256 * hi.toNat + lo.toNat) ∧ c.ramIndex o = ram en ram4.toNat ∧
       c.mapper.control zeroIsOne n v =
         if n < 0x2000 then .variantC on lo hi ram4
         else if n < 0x3000 then .variantC en v hi ram4
         else if n < 0x4000 then .variantC en lo (BitVec.ofNat 1 (v.toNat % 2)) ram4
         else if n < 0x6000 then .variantC en lo hi (BitVec.ofNat 4 (v.toNat % 16))
         else .variantC en lo hi ram4)

/-! ## Devices -/

/-- 60_exceptions.md R604, R692. `mmu_step`: the pending requests are ORed into IF and cleared, and then the timer, the OAM DMA
and the VRAM DMA advance, in this order. A key press sets its latch bit and requests source 4, a release clears the bit and
requests nothing, whatever the selection. -/
def Obligations.RequestsAndKeys : Prop :=
  (∀ (m : Mmu) (cfg : Config) (c : Nat), ∃ f : BitVec 5,
    m.step cfg c = (Mmu.oamDmaStep { m with intFlag := f,
                                            video := { m.video with pendingVblank := false, pendingStat := false },
                                            timer := Timer.step { m.timer with pending := false } c,
                                            joypad := { m.joypad with pending := false } } cfg c).hdmaStep cfg ∧
    ∀ k < 5, f.getLsbD k = (m.intFlag.getLsbD k || (decide (k = 0) && m.video.pendingVblank) ||
      (decide (k = 1) && m.video.pendingStat) || (decide (k = 2) && m.timer.pending) ||
      (decide (k = 4) && m.joypad.pending))) ∧
  ∀ (j : Joypad) (x : Button),
    (j.event (.press x)).pending = true ∧ (j.event (.release x)).pending = j.pending ∧
    ∀ pressed : Bool, ∃ j' : Joypad, j' = (if pressed then j.event (.press x) else j.event (.release x)) ∧
      j'.sel = j.sel ∧ ∀ y : Button, j'.bit y = if y = x then pressed else j.bit y

/-- 60_exceptions.md R620, R621, R622. The loops of `timer_step`, unrolled one turn at a time. -/
def Obligations.TimerLoop : Prop :=
  ∀ (t : Timer) (c : Nat),
    t.step c = (t.stepDiv c).stepTima c ∧
    (t.divAcc + c < 256 → t.stepDiv c = { t with divAcc := t.divAcc + c }) ∧
    (256 ≤ t.divAcc + c → t.stepDiv c = Timer.stepDiv { t with divAcc := t.divAcc + c - 256, div := t.div + 1 } 0) ∧
    (t.tac.getLsbD 2 = false → t.stepTima c = t) ∧
    (t.tac.getLsbD 2 = true →
      (let period := [1024, 16, 64, 256].getD (t.tac.toNat % 4) 0
       (t.timaAcc + c < period → t.stepTima c = { t with timaAcc := t.timaAcc + c }) ∧
       (period ≤ t.timaAcc + c →
         t.stepTima c = Timer.stepTima
           (if t.tima = 0xFF then { t with timaAcc := t.timaAcc + c - period, tima := t.tma, pending := true }
            else { t with timaAcc := t.timaAcc + c - period, tima := t.tima + 1 }) 0)))

/-- 60_exceptions.md R641, R650. With LCDC.7 = 0 any number of steps of the controller changes nothing and emits nothing; a
write of LCDC that changes bit 7 restarts line 0, in mode 0 or with the OAM-search entry; any other write only stores the
byte. -/
def Obligations.LcdSwitch : Prop :=
  (∀ (m : Mmu) (cfg : Config) (steps : List Nat), m.video.lcdc.getLsbD 7 = false →
    steps.foldl (fun m' n => m'.videoStep cfg n) m = m) ∧
  ∀ (s : State) (v : Byte),
    (let w : Video := { s.mmu.video with lcdc := v }
     let after : Video :=
       if s.mmu.video.lcdc.getLsbD 7 = v.getLsbD 7 then w
       else if v.getLsbD 7 then Video.enterOam { w with ly := 0, lineCycles := 0 }
       else { w with ly := 0, lineCycles := 0, mode := .hblank }
     (s.store 0xFF40 v).read 0xFF40 = v ∧ s.store 0xFF40 v = { s with mmu := { s.mmu with video := after } })

/-- 60_exceptions.md R643 to R649. The loop of `video_step`, unrolled one transition at a time, with the effects of each entry
written out: the sprite list, the requests, the coincidence flag, the window's line counter and the calls to the host.
The pixels of the row are TilesAndColours, BackgroundPixels and SpritePixels; `rowsComposed` is the model's own count
(assumption 12). -/
def Obligations.VideoLoop : Prop :=
  ∀ (v : Video) (cgb : Bool) (sh : Shades) (n : Nat), v.lcdc.getLsbD 7 = true →
    (let l := v.lineCycles + n
     let stat (k : Nat) := v.statEnable.getLsbD (k - 3)
     let next := v.ly + 1
     let h := if v.lcdc.getLsbD 2 then 16 else 8
     let scan (ly : Byte) := ((List.range 40).filter fun k =>
       decide ((v.oam.read (4 * k)).toNat ≤ ly.toNat + 16 ∧ ly.toNat + 16 < (v.oam.read (4 * k)).toNat + h)).take 10
     let oamEntry (ly : Byte) : Video :=
       { v with
         mode := .oamSearch, lineCycles := l - 456, ly := ly, sprites := scan ly,
         coincidence := decide (ly = v.lyc),
         pendingStat := v.pendingStat || stat 5 || (decide (ly = v.lyc) && stat 6) }
     let goOn (w : Video) (out : List HostOutput) := ((w.step cgb sh 0).1, out ++ (w.step cgb sh 0).2)
     (v.mode = .oamSearch → 80 ≤ l → v.step cgb sh n =
       (let arm := decide (v.windowStarted = false ∧ v.ly = v.wy)
        let w : Video := { v with lineCycles := l, windowStarted := v.windowStarted || arm,
                                  windowLine := if arm then 0 else v.windowLine }
        goOn { w with mode := .transfer, windowLine := if w.windowStarted then w.windowLine + 1 else w.windowLine,
                      rowsComposed := v.rowsComposed + 1 }
          [.line (w.composeRow cgb sh) v.ly])) ∧
     (v.mode = .transfer → 252 ≤ l → v.step cgb sh n =
       goOn { v with lineCycles := l, mode := .hblank, pendingStat := v.pendingStat || stat 3 } []) ∧
     (v.mode = .hblank → 456 ≤ l → next = 144 → v.step cgb sh n =
       goOn { v with mode := .vblank, lineCycles := l - 456, ly := next, pendingVblank := true, frameComplete := true,
                     windowStarted := false, windowLine := 0, coincidence := decide (next = v.lyc),
                     pendingStat := v.pendingStat || stat 4 || (decide (next = v.lyc) && stat 6) } [.frame]) ∧
     (v.mode = .hblank → 456 ≤ l → next ≠ 144 → v.step cgb sh n = goOn (oamEntry next) []) ∧
     (v.mode = .vblank → 456 ≤ l → next = 154 → v.step cgb sh n = goOn (oamEntry 0) []) ∧
     (v.mode = .vblank → 456 ≤ l → next ≠ 154 → v.step cgb sh n =
       goOn { v with lineCycles := l - 456, ly := next, coincidence := decide (next = v.lyc),
                     pendingStat := v.pendingStat || (decide (next = v.lyc) && stat 6) } []) ∧
     (l < (match v.mode with | .oamSearch => 80 | .transfer => 252 | .hblank => 456 | .vblank => 456) →
       v.step cgb sh n = ({ v with lineCycles := l }, [])))

/-- 60_exceptions.md R640, R642, R646 together (R642 is an inference of the spec): with the LCD on, after n cycles the controller
stands n cycles on in a frame of 154 lines of 456 cycles, in the mode of its cycle window; and one frame of 70224 cycles emits
every line 0 to 143 exactly once and `render_frame` once. -/
def Obligations.FrameOfRows : Prop :=
  ∀ (v : Video) (cgb : Bool) (sh : Shades), v.lcdc.getLsbD 7 = true → v.placed →
    (∀ n, (v.step cgb sh n).1.placed ∧ (v.step cgb sh n).1.ly.toNat * 456 + (v.step cgb sh n).1.lineCycles =
      (v.ly.toNat * 456 + v.lineCycles + n) % 70224) ∧
    (let out := (v.step cgb sh 70224).2
     (∀ l < 144, (out.filter fun o => match o with | .line _ ly => decide (ly.toNat = l) | _ => false).length = 1) ∧
       (out.filter fun o => decide (o = .frame)).length = 1 ∧ out.length = 145)

/-- 60_exceptions.md R652, R656, R657. A tile's two bytes stored through the MMU decode to the pixel grid of the rule, whatever
mode the controller is in; every row the controller emits has 160 colours, each a DMG shade, or in CGB mode three channels that
are expansions of 5 bits; and the colour at each column of a composed row is the palette lookup of the sprite pixel there, or of
the background pixel where there is none (SpritePixels and BackgroundPixels say which these are). -/
def Obligations.TilesAndColours : Prop :=
  (∀ (s : State) (t r n : Nat) (lo hi : Byte), t < 384 → r < 8 → n < 8 →
    (let a := 0x8000 + BitVec.ofNat 16 (16 * t + 2 * r)
     let u := (s.store a lo).store (a + 1) hi
     u.mmu.video.tilePixel s.mmu.vbank t n r = 2 * (hi.getLsbD (7 - n)).toNat + (lo.getLsbD (7 - n)).toNat)) ∧
  (∀ (v : Video) (cgb : Bool) (sh : Shades) (n : Nat) (row : List Rgb) (ly : Byte),
    .line row ly ∈ (v.step cgb sh n).2 → row.length = 160 ∧ ∀ x ∈ row,
      (cgb = false → x ∈ [sh.s0, sh.s1, sh.s2, sh.s3]) ∧
      (cgb = true → ∀ ch ∈ [x.r, x.g, x.b], ∃ c5 : Nat, c5 < 32 ∧ ch.toNat = 8 * c5 + c5 / 4)) ∧
  ∀ (v : Video) (cgb : Bool) (sh : Shades) (col : Nat), col < 160 → ∃ x, (v.composeRow cgb sh)[col]? = some x ∧
    (let bg := v.backgroundPixel cgb col
     let shade (palette : Byte) (ci : Nat) := [sh.s0, sh.s1, sh.s2, sh.s3].getD (palette.toNat / 4 ^ ci % 4) sh.s0
     let isColour (ram : Memory) (p ci : Nat) : Prop :=
       let w := (ram.read (8 * p + 2 * ci)).toNat + 256 * (ram.read (8 * p + 2 * ci + 1)).toNat
       let expand (c : Nat) := 8 * c + c / 4
       x.r.toNat = expand (w % 32) ∧ x.g.toNat = expand (w / 32 % 32) ∧ x.b.toNat = expand (w / 1024 % 32)
     match v.foregroundPixel cgb bg col with
     | some (ci, attr) => (cgb = false → x = shade (if attr.getLsbD 4 then v.obp1 else v.obp0) ci) ∧
         (cgb = true → isColour v.obPram (attr.toNat % 8) ci)
     | none => (cgb = false → x = shade v.bgp bg.1) ∧ (cgb = true → isColour v.bgPram (bg.2.toNat % 8) bg.1))

/-- 60_exceptions.md R670, R671. A write of DMA starts or restarts the transfer; `oam_dma_step` unrolled one byte at a time, each
an ordinary MMU read and a direct OAM write; the end at cursor 160. -/
def Obligations.OamDmaLoop : Prop :=
  (∀ (s : State) (v : Byte), s.store 0xFF46 v = { s with mmu := { s.mmu with oamDma :=
    { reg := v, active := true, srcPage := v, cursor := 0, acc := 0 } } }) ∧
  ∀ (m : Mmu) (cfg : Config) (c : Nat),
    (m.oamDma.active = false → m.oamDmaStep cfg c = m) ∧
    (m.oamDma.active = true → m.oamDma.cursor < 160 → 4 ≤ m.oamDma.acc + c →
      m.oamDmaStep cfg c = Mmu.oamDmaStep
        { m with
          video := { m.video with
            oam := m.video.oam.write m.oamDma.cursor
              (m.read cfg (BitVec.ofNat 16 (256 * m.oamDma.srcPage.toNat + m.oamDma.cursor))) },
          oamDma := { m.oamDma with cursor := m.oamDma.cursor + 1, acc := m.oamDma.acc + c - 4 } } cfg 0) ∧
    (m.oamDma.active = true → m.oamDma.cursor < 160 → m.oamDma.acc + c < 4 →
      m.oamDmaStep cfg c = { m with oamDma := { m.oamDma with acc := m.oamDma.acc + c } }) ∧
    (m.oamDma.active = true → m.oamDma.cursor = 160 →
      m.oamDmaStep cfg c = { m with oamDma := { m.oamDma with acc := m.oamDma.acc + c, active := false } })

/-- 60_exceptions.md R675, R676. In CGB mode a write of HDMA5 with bit 7 clear arms the transfer, and `hdma_step` copies its
bytes in order, wrapping inside the VRAM bank, and is complete; a block of work RAM bank 0 arrives whole and nothing else of
VRAM changes. (Bit 7 set: FatalStores.) -/
def Obligations.VramDma : Prop :=
  (∀ (s : State) (v : Byte), s.mmu.cgb = true → v.toNat < 128 → s.store 0xFF55 v = { s with mmu := { s.mmu with hdma :=
    { s.mmu.hdma with
      armed := true,
      src := BitVec.ofNat 16 ((256 * s.mmu.hdma.hdma1.toNat + s.mmu.hdma.hdma2.toNat) / 16 * 16),
      dst := BitVec.ofNat 13 ((256 * s.mmu.hdma.hdma3.toNat + s.mmu.hdma.hdma4.toNat) / 16 * 16 % 0x2000),
      len := 16 * (v.toNat + 1) } } }) ∧
  ∀ (m : Mmu) (cfg : Config),
    (m.hdma.armed = false → m.hdmaStep cfg = m) ∧
    (m.hdma.armed = true →
      (let target (i : Nat) := m.vbank * 0x2000 + (m.hdma.dst.toNat + i) % 0x2000
       let done := (List.range m.hdma.len).foldl (fun (m' : Mmu) i => { m' with video := { m'.video with
          vram := m'.video.vram.write (target i) (m'.read cfg (m.hdma.src + BitVec.ofNat 16 i)) } }) m
       m.hdmaStep cfg = { done with hdma := { m.hdma with len := 0, armed := false } } ∧
       (0xC000 ≤ m.hdma.src.toNat → m.hdma.src.toNat + m.hdma.len ≤ 0xD000 → m.hdma.len ≤ 0x2000 →
         (∀ i < m.hdma.len, done.video.vram.read (target i) = m.wram.read (m.hdma.src.toNat - 0xC000 + i)) ∧
         ∀ k, (∀ i < m.hdma.len, k ≠ target i) → done.video.vram.read k = m.video.vram.read k)))

/-! ## Load and power-on -/

/-- 70_reset_and_hazards.md R802 with 20_memory.md R241, R242, R243, R245: the checks of the load in their order, each with its
fatal code; and the cartridge of a load that passes them. The limits of the last check are an inference of the spec (R246). -/
def Obligations.LoadChecks : Prop :=
  ∀ (cfg : Config) (cart save : Image) (boot : Option Memory) (ram : InitialRam),
    (let byte (k : Nat) := (cart.bytes.read k).toNat
     let types : List (Variant × List Nat) :=
       [(.noBank, [0x00, 0x08, 0x09]), (.variantA, [0x01, 0x02, 0x03]), (.variantB, [0x0F, 0x10, 0x11, 0x12, 0x13]),
        (.variantC, [0x19, 0x1A, 0x1B, 0x1C, 0x1D, 0x1E])]
     let banks (x : Variant) : Nat × Nat := if x = .noBank then (1, 0x2000) else
       [(0, 0), (1, 0x800), (1, 0x2000), (4, 0x2000), (16, 0x2000), (8, 0x2000)].getD (byte 0x149) (0, 0)
     let nRom := 2 * 2 ^ byte 0x148
     let result := load cfg cart save boot ram
     (cart.size < 0x150 → result = .fault (.f8ImageLength cart.size)) ∧
     (0x150 ≤ cart.size →
       ((∀ x l, (x, l) ∈ types → byte 0x147 ∉ l) → result = .fault (.f3ControllerType (cart.bytes.read 0x147))) ∧
       ∀ x l, (x, l) ∈ types → byte 0x147 ∈ l →
         (8 < byte 0x148 → result = .fault (.f7SizeCode (cart.bytes.read 0x148))) ∧
         (byte 0x148 ≤ 8 →
           (x ≠ .noBank → 5 < byte 0x149 → result = .fault (.f7SizeCode (cart.bytes.read 0x149))) ∧
           ((x = .noBank ∨ byte 0x149 ≤ 5) →
             (cart.size ≠ nRom * 0x4000 → result = .fault (.f8ImageLength cart.size)) ∧
             (cart.size = nRom * 0x4000 →
               (let fits := match x with
                  | .noBank => nRom = 2
                  | .variantA => nRom ≤ 128 ∧ (banks x).1 ≤ 4
                  | .variantB => nRom ≤ 128 ∧ (banks x).1 ≤ 16
                  | .variantC => nRom ≤ 512 ∧ (banks x).1 ≤ 16
                (¬ fits → result = .fault (.f4BankCount x nRom (banks x).1)) ∧
                (fits → ∃ s, result = .next s ∧ s.mmu.cart.rom = cart.bytes ∧ s.mmu.cart.nRom = nRom ∧
                  s.mmu.cart.nRam = (banks x).1 ∧ s.mmu.cart.sRam = (banks x).2 ∧ s.mmu.cart.mapper.variant = x ∧
                  s.mmu.cgb = decide (byte 0x143 = 0x80 ∨ byte 0x143 = 0xC0) ∧ s.mmu.bootMode = boot.isSome ∧
                  ∀ k, s.mmu.cart.ram.read k =
                    if k < save.size ∧ k < (banks x).1 * (banks x).2 then save.bytes.read k else 0)))))))

/-- 70_reset_and_hazards.md R800, R801 and 20_memory.md R258: the power-on state of a loaded machine, field by field. -/
def Obligations.PowerOn : Prop :=
  ∀ (cfg : Config) (cart save : Image) (boot : Option Memory) (ram : InitialRam) (s : State),
    load cfg cart save boot ram = .next s →
    s.config = cfg ∧ s.ime = false ∧ s.imePending = false ∧ s.halted = false ∧ s.fault = none ∧
    s.mmu.doubleSpeed = false ∧ s.mmu.key1Armed = false ∧ s.mmu.svbk = 0 ∧ s.mmu.intEnable = 0 ∧ s.mmu.wram = ram.wram ∧
    s.mmu.hram = ram.hram ∧ s.mmu.video.vram = ram.vram ∧ s.mmu.video.oam = ram.oam ∧ s.mmu.timer = ⟨0, 0, 0, 0, 0, 0, false⟩ ∧
    s.mmu.joypad = ⟨0, false, false, false, false, false, false, false, false, false⟩ ∧
    s.mmu.oamDma.reg = 0 ∧ s.mmu.oamDma.active = false ∧ s.mmu.hdma.armed = false ∧
    s.mmu.hdma.hdma1 = 0 ∧ s.mmu.hdma.hdma2 = 0 ∧ s.mmu.hdma.hdma3 = 0 ∧ s.mmu.hdma.hdma4 = 0 ∧
    s.mmu.cart.mapper ∈ [.noBank, .variantA false 1 0 false, .variantB false 1 0, .variantC false 1 0 0] ∧
    s.mmu.video.statEnable = 0 ∧ s.mmu.video.scy = 0 ∧ s.mmu.video.scx = 0 ∧ s.mmu.video.ly = 0 ∧ s.mmu.video.lyc = 0 ∧
    s.mmu.video.wy = 0 ∧ s.mmu.video.wx = 0 ∧ s.mmu.video.vbk = 0 ∧ s.mmu.video.bcps = 0 ∧ s.mmu.video.ocps = 0 ∧
    s.mmu.video.lineCycles = 0 ∧ s.mmu.video.windowStarted = false ∧ s.mmu.video.windowLine = 0 ∧
    s.mmu.video.frameComplete = false ∧ s.mmu.video.pendingVblank = false ∧ s.mmu.video.pendingStat = false ∧
    (∀ k, s.mmu.cart.ram.read k = if k < save.size ∧ k < s.mmu.cart.nRam * s.mmu.cart.sRam then save.bytes.read k else 0) ∧
    (∀ b, boot = some b →
      s.regs = ⟨0, 0, 0, 0, 0, 0, 0, 0⟩ ∧ s.sp = 0 ∧ s.pc = 0 ∧ s.mmu.bootMode = true ∧ s.mmu.bootRom = b ∧ s.mmu.io = [] ∧
      s.mmu.intFlag = 0 ∧ s.mmu.video.lcdc = 0 ∧ s.mmu.video.bgp = 0 ∧ s.mmu.video.obp0 = 0 ∧ s.mmu.video.obp1 = 0 ∧
      s.mmu.video.mode = .hblank ∧ s.mmu.video.coincidence = false ∧ s.mmu.video.sprites = [] ∧
      s.mmu.video.bgPram = ram.bgPram ∧ s.mmu.video.obPram = ram.obPram ∧
      s.read 0xFF00 = 0xCF ∧ s.read 0xFF07 = 0xF8 ∧ s.read 0xFF41 = 0x80) ∧
    (boot = none →
      s.regs = (if s.mmu.cgb then ⟨0x11, 0x80, 0x00, 0x00, 0xFF, 0x56, 0x00, 0x0D⟩
                else ⟨0x01, 0xB0, 0x00, 0x13, 0x00, 0xD8, 0x01, 0x4D⟩) ∧
      s.sp = 0xFFFE ∧ s.pc = 0x0100 ∧ s.mmu.bootMode = false ∧ s.mmu.io = [(0x50, 0x01)] ∧ s.read 0xFF50 = 0x01 ∧ s.read 0xFF0F = 0xE1 ∧
      s.mmu.video.lcdc = 0x91 ∧ s.mmu.video.bgp = 0xFC ∧ s.mmu.video.obp0 = 0xFF ∧ s.mmu.video.obp1 = 0xFF ∧
      s.mmu.video.mode = .oamSearch ∧ s.mmu.video.sprites = Video.spriteScan { s.mmu.video with sprites := [] } 0 ∧
      (ram.oam = [] → s.mmu.video.sprites = []) ∧ s.read 0xFF41 = 0x86 ∧
      (∀ k < 64, s.mmu.cgb = true → s.mmu.video.bgPram.read k = 0xFF ∧ s.mmu.video.obPram.read k = 0xFF))

/-! ## Pixels -/

/-- 60_exceptions.md R653, R654, R658. The background part of a pixel: the window when it is enabled, started and the column is
not left of WX - 7, whatever LCDC.0 holds; else the scrolled background when it is enabled; else index 0. A map entry's tile is
numbered from 0 or from 256 signed, mirrored and banked as its CGB attribute says; a map entry outside the bank of VRAM, which
only a window line of 256 or more reaches, is some byte (assumption 17). -/
def Obligations.BackgroundPixels : Prop :=
  ∀ (v : Video) (cgb : Bool) (col : Nat), col < 160 →
    (let lcdc (k : Nat) := v.lcdc.getLsbD k = true
     let pixel (bank t n r : Nat) : Nat := 2 * ((v.vram.read (bank * 0x2000 + 16 * t + 2 * r + 1)).getLsbD (7 - n)).toNat +
       ((v.vram.read (bank * 0x2000 + 16 * t + 2 * r)).getLsbD (7 - n)).toNat
     let isMap (map x y : Nat) : Prop := ∃ t attr : Byte,
       (map + 32 * (y / 8) + x / 8 < 0x2000 → t = v.vram.read (map + 32 * (y / 8) + x / 8) ∧
         (cgb = true → attr = v.vram.read (0x2000 + (map + 32 * (y / 8) + x / 8)))) ∧ (cgb = false → attr = 0) ∧
       v.backgroundPixel cgb col =
         (pixel (attr.getLsbD 3).toNat (if lcdc 4 then t.toNat else if t.toNat < 128 then 256 + t.toNat else t.toNat)
           (if attr.getLsbD 5 then 7 - x % 8 else x % 8) (if attr.getLsbD 6 then 7 - y % 8 else y % 8), attr)
     let window := lcdc 5 ∧ v.windowStarted = true ∧ v.wx.toNat ≤ col + 7
     (window → isMap (if lcdc 6 then 0x1C00 else 0x1800) (col + 7 - v.wx.toNat) v.windowLine) ∧
     (¬ window → lcdc 0 →
       isMap (if lcdc 3 then 0x1C00 else 0x1800) ((col + v.scx.toNat) % 256) ((v.ly.toNat + v.scy.toNat) % 256)) ∧
     (¬ window → ¬ lcdc 0 → v.backgroundPixel cgb col = (0, 0)))

/-- 60_exceptions.md R655. The sprite part of a pixel over the background pixel bg: the first sprite of the list, in its order,
whose span covers the column and whose pixel is opaque and not behind the background; a hidden one does not stop the scan. The
tile's half, mirrors, row and bank are those of the rule, in integers; a row outside the tile of an 8-row sprite is some colour
index (assumption 12). -/
def Obligations.SpritePixels : Prop :=
  ∀ (v : Video) (cgb : Bool) (bg : Nat × Byte) (col : Nat),
    (let pixel (bank t n r : Nat) : Nat := 2 * ((v.vram.read (bank * 0x2000 + 16 * t + 2 * r + 1)).getLsbD (7 - n)).toNat +
       ((v.vram.read (bank * 0x2000 + 16 * t + 2 * r)).getLsbD (7 - n)).toNat
     let tall := v.lcdc.getLsbD 2 = true
     let x (k : Nat) := (v.oam.read (4 * k + 1)).toNat
     let tile (k : Nat) := (v.oam.read (4 * k + 2)).toNat
     let attr (k : Nat) := v.oam.read (4 * k + 3)
     let covers (k : Nat) := x k ≤ col + 8 ∧ col + 8 < x k + 8
     let px (k : Nat) := if (attr k).getLsbD 5 then 7 - (col + 8 - x k) else col + 8 - x k
     let line (k : Nat) : Int := (v.ly.toNat : Int) + 16 - (v.oam.read (4 * k)).toNat
     let py (k : Nat) : Int := if (attr k).getLsbD 6 then (if tall then 15 else 7) - line k else line k
     let bank (k : Nat) := if cgb then ((attr k).getLsbD 3).toNat else 0
     ∃ ci : Nat → Nat,
       (∀ k, covers k → ci k < 4 ∧
         (tall → ci k = pixel (bank k) (if py k < 8 then tile k / 2 * 2 else tile k / 2 * 2 + 1) (px k) (py k % 8).toNat) ∧
         (¬ tall → 0 ≤ py k → py k < 8 → ci k = pixel (bank k) (tile k) (px k) (py k).toNat)) ∧
       (let drawn (k : Nat) := covers k ∧ ci k ≠ 0 ∧ ((attr k).getLsbD 7 = false ∨ bg.1 = 0) ∧
          ¬ (cgb = true ∧ bg.2.getLsbD 7 = true ∧ bg.1 ≠ 0)
        (v.lcdc.getLsbD 1 = false → v.foregroundPixel cgb bg col = none) ∧
        (v.lcdc.getLsbD 1 = true → (∀ k ∈ v.sprites, ¬ drawn k) → v.foregroundPixel cgb bg col = none) ∧
        (v.lcdc.getLsbD 1 = true → ∀ before k after, v.sprites = before ++ k :: after → (∀ j ∈ before, ¬ drawn j) → drawn k →
          v.foregroundPixel cgb bg col = some (ci k, attr k))))
end

