-- ==== Sys2Proof/Laws/Memory.lean ====
section
/-! SUPPORT. Storage arrays: a read after a write, and that every write keeps the canonical form and the size. -/

namespace Sys2Proof.Machine.Memory

/-! ## Reads -/

theorem read_erase (m : Memory) (k j : Nat) : (m.erase k).read j = if j = k then unlisted else m.read j := by
  induction m with
  | nil => simp [erase, read]
  | cons c t ih =>
    obtain ⟨i, v⟩ := c
    simp only [erase, List.filter_cons] at ih ⊢
    by_cases h : i = k <;> simp [h, read, ih] <;> split <;> simp_all

theorem read_insert (m : Memory) (k j : Nat) (v : Byte) : (m.insert k v).read j = if j = k then v else m.read j := by
  induction m with
  | nil => simp [insert, read]
  | cons c t ih =>
    obtain ⟨i, w⟩ := c
    simp only [insert]
    split
    · simp [read]
    · split
      · next h => subst h; simp only [read]; split <;> rfl
      · next h => simp only [read, ih]; split <;> split <;> simp_all

/-- A read after a write: the byte written at its index, every other byte as before. -/
theorem read_write (m : Memory) (k j : Nat) (v : Byte) : (m.write k v).read j = if j = k then v else m.read j := by
  unfold write
  split
  · next h => rw [read_erase, h]
  · exact read_insert m k j v

theorem read_write_same (m : Memory) (k : Nat) (v : Byte) : (m.write k v).read k = v := by simp [read_write]

theorem read_write_other (m : Memory) {k j : Nat} (v : Byte) (h : j ≠ k) : (m.write k v).read j = m.read j := by
  simp [read_write, h]

/-! ## The canonical form -/

theorem wfFrom_le {lo lo' : Nat} {m : Memory} (h : lo' ≤ lo) (hw : wfFrom lo m = true) : wfFrom lo' m = true := by
  cases m with
  | nil => rfl
  | cons c t => simp only [wfFrom, Bool.and_eq_true, decide_eq_true_eq] at hw ⊢; exact ⟨⟨by omega, hw.1.2⟩, hw.2⟩

theorem wfFrom_erase {m : Memory} (k : Nat) : ∀ {lo : Nat}, wfFrom lo m = true → wfFrom lo (m.erase k) = true := by
  induction m with
  | nil => intro lo _; rfl
  | cons c t ih =>
    intro lo hw
    simp only [wfFrom, Bool.and_eq_true, decide_eq_true_eq] at hw
    simp only [erase, List.filter_cons]
    split
    · simp only [wfFrom, Bool.and_eq_true, decide_eq_true_eq]; exact ⟨hw.1, ih hw.2⟩
    · exact wfFrom_le (by omega) (ih hw.2)

theorem wfFrom_insert {m : Memory} {k : Nat} {v : Byte} (hv : v ≠ unlisted) :
    ∀ {lo : Nat}, lo ≤ k → wfFrom lo m = true → wfFrom lo (m.insert k v) = true := by
  induction m with
  | nil => intro lo hk _; simp [insert, wfFrom, hk, hv]
  | cons c t ih =>
    obtain ⟨i, w⟩ := c
    intro lo hk hw
    simp only [wfFrom, Bool.and_eq_true, decide_eq_true_eq] at hw
    simp only [insert]
    split
    · next h => simp only [wfFrom, Bool.and_eq_true, decide_eq_true_eq, bne_iff_ne]; exact ⟨⟨hk, hv⟩, ⟨by omega, by simpa using hw.1.2⟩, hw.2⟩
    · split
      · next h => subst h; simp only [wfFrom, Bool.and_eq_true, decide_eq_true_eq, bne_iff_ne]; exact ⟨⟨hk, hv⟩, hw.2⟩
      · next h => simp only [wfFrom, Bool.and_eq_true, decide_eq_true_eq]; exact ⟨hw.1, ih (by omega) hw.2⟩

/-- A write keeps the canonical form. -/
theorem wf_write {m : Memory} (k : Nat) (v : Byte) (hw : m.wf = true) : (m.write k v).wf = true := by
  unfold write
  split
  · exact wfFrom_erase k hw
  · next h => exact wfFrom_insert h (Nat.zero_le k) hw

/-! ## The size -/

theorem within_erase {m : Memory} {n : Nat} (k : Nat) (h : m.within n = true) : (m.erase k).within n = true := by
  simp only [within, erase, List.all_eq_true] at h ⊢
  exact fun c hc => h c (List.mem_filter.1 hc).1

theorem within_insert {m : Memory} {n k : Nat} (v : Byte) (hk : k < n) (h : m.within n = true) :
    (m.insert k v).within n = true := by
  induction m with
  | nil => simpa [insert, within] using hk
  | cons c t ih =>
    simp only [within, List.all_cons, Bool.and_eq_true, decide_eq_true_eq] at h ih
    simp only [insert]
    split
    · simp [within, hk, h]
    · split
      · simp [within, hk, h]
      · simp only [within, List.all_cons, Bool.and_eq_true, decide_eq_true_eq]; exact ⟨h.1, ih h.2⟩

theorem within_write {m : Memory} {n k : Nat} (v : Byte) (hk : k < n) (h : m.within n = true) :
    (m.write k v).within n = true := by
  unfold write
  split
  · exact within_erase k h
  · exact within_insert v hk h

/-- A write inside the array keeps it canonical and inside its size. -/
theorem fits_write {m : Memory} {n k : Nat} (v : Byte) (hk : k < n) (h : m.fits n) : (m.write k v).fits n :=
  ⟨wf_write k v h.1, within_write v hk h.2⟩

/-- Nothing is listed at or beyond the size. -/
theorem read_of_within {m : Memory} {n k : Nat} (hk : n ≤ k) (h : m.within n = true) : m.read k = unlisted := by
  induction m with
  | nil => rfl
  | cons c t ih =>
    simp only [within, List.all_cons, Bool.and_eq_true, decide_eq_true_eq] at h ih
    have : ¬ k = c.1 := by omega
    simp [read, this, ih h.2]

/-! ## Equal contents, equal data -/

theorem read_below {m : Memory} {lo k : Nat} (hk : k < lo) (h : wfFrom lo m = true) : m.read k = unlisted := by
  induction m generalizing lo with
  | nil => rfl
  | cons c t ih =>
    simp only [wfFrom, Bool.and_eq_true, decide_eq_true_eq] at h
    have : ¬ k = c.1 := by omega
    simp [read, this, ih (by omega : k < c.1 + 1) h.2]

theorem ext_from : ∀ {m m' : Memory} {lo : Nat}, wfFrom lo m = true → wfFrom lo m' = true →
    (∀ k, m.read k = m'.read k) → m = m'
  | [], [], _, _, _, _ => rfl
  | [], c :: t, _, _, h', e => by
    simp only [wfFrom, Bool.and_eq_true, bne_iff_ne] at h'
    exact absurd (by simpa [read] using (e c.1).symm) h'.1.2
  | c :: t, [], _, h, _, e => by
    simp only [wfFrom, Bool.and_eq_true, bne_iff_ne] at h
    exact absurd (by simpa [read] using e c.1) h.1.2
  | (i, v) :: t, (j, w) :: t', lo, h, h', e => by
    simp only [wfFrom, Bool.and_eq_true, decide_eq_true_eq, bne_iff_ne] at h h'
    have hij : i = j := by
      rcases Nat.lt_trichotomy i j with hlt | heq | hgt
      · have := e i
        simp only [read, if_pos, show ¬ i = j by omega, if_false] at this
        rw [read_below (by omega : i < j + 1) h'.2] at this
        exact absurd this h.1.2
      · exact heq
      · have := e j
        simp only [read, if_pos, show ¬ j = i by omega, if_false] at this
        rw [read_below (by omega : j < i + 1) h.2] at this
        exact absurd this.symm h'.1.2
    subst hij
    have hv : v = w := by simpa [read] using e i
    subst hv
    have : t = t' := ext_from h.2 h'.2 fun k => by
      by_cases hk : k = i
      · subst hk; rw [read_below (Nat.lt_succ_self k) h.2, read_below (Nat.lt_succ_self k) h'.2]
      · simpa [read, hk] using e k
    rw [this]

/-- Two canonical arrays with the same bytes are the same data. -/
theorem ext {m m' : Memory} (h : m.wf = true) (h' : m'.wf = true) (e : ∀ k, m.read k = m'.read k) : m = m' :=
  ext_from h h' e

end Sys2Proof.Machine.Memory
end

