-- ==== Sys2Proof/Laws/State.lean ====
section
/-! SUPPORT. One lemma for each field and each update of the state (by `rfl`), what a read sees after an update of the CPU
alone, and the register file's reads after its writes. -/

namespace Sys2Proof.Machine

/-! ## `tick` -/

@[simp] theorem State.tick_regs (s : State) (k : Nat) : (s.tick k).regs = s.regs := rfl
@[simp] theorem State.tick_sp (s : State) (k : Nat) : (s.tick k).sp = s.sp := rfl
@[simp] theorem State.tick_pc (s : State) (k : Nat) : (s.tick k).pc = s.pc := rfl
@[simp] theorem State.tick_ime (s : State) (k : Nat) : (s.tick k).ime = s.ime := rfl
@[simp] theorem State.tick_imePending (s : State) (k : Nat) : (s.tick k).imePending = s.imePending := rfl
@[simp] theorem State.tick_halted (s : State) (k : Nat) : (s.tick k).halted = s.halted := rfl
@[simp] theorem State.tick_fault (s : State) (k : Nat) : (s.tick k).fault = s.fault := rfl
@[simp] theorem State.tick_mmu (s : State) (k : Nat) : (s.tick k).mmu = s.mmu := rfl
@[simp] theorem State.tick_config (s : State) (k : Nat) : (s.tick k).config = s.config := rfl
@[simp] theorem State.tick_keyEvents (s : State) (k : Nat) : (s.tick k).keyEvents = s.keyEvents := rfl
@[simp] theorem State.tick_debugger (s : State) (k : Nat) : (s.tick k).debugger = s.debugger := rfl
@[simp] theorem State.tick_cost (s : State) (k : Nat) : (s.tick k).cost = k := rfl
@[simp] theorem State.tick_read (s : State) (k : Nat) (adr : Word) : (s.tick k).read adr = s.read adr := rfl

/-! ## `setReg8` -/

@[simp] theorem State.setReg8_regs (s : State) (x : Reg8) (v : Byte) : (s.setReg8 x v).regs = s.regs.set8 x v := rfl
@[simp] theorem State.setReg8_sp (s : State) (x : Reg8) (v : Byte) : (s.setReg8 x v).sp = s.sp := rfl
@[simp] theorem State.setReg8_pc (s : State) (x : Reg8) (v : Byte) : (s.setReg8 x v).pc = s.pc := rfl
@[simp] theorem State.setReg8_ime (s : State) (x : Reg8) (v : Byte) : (s.setReg8 x v).ime = s.ime := rfl
@[simp] theorem State.setReg8_imePending (s : State) (x : Reg8) (v : Byte) : (s.setReg8 x v).imePending = s.imePending := rfl
@[simp] theorem State.setReg8_halted (s : State) (x : Reg8) (v : Byte) : (s.setReg8 x v).halted = s.halted := rfl
@[simp] theorem State.setReg8_fault (s : State) (x : Reg8) (v : Byte) : (s.setReg8 x v).fault = s.fault := rfl
@[simp] theorem State.setReg8_mmu (s : State) (x : Reg8) (v : Byte) : (s.setReg8 x v).mmu = s.mmu := rfl
@[simp] theorem State.setReg8_config (s : State) (x : Reg8) (v : Byte) : (s.setReg8 x v).config = s.config := rfl
@[simp] theorem State.setReg8_keyEvents (s : State) (x : Reg8) (v : Byte) : (s.setReg8 x v).keyEvents = s.keyEvents := rfl
@[simp] theorem State.setReg8_debugger (s : State) (x : Reg8) (v : Byte) : (s.setReg8 x v).debugger = s.debugger := rfl
@[simp] theorem State.setReg8_cost (s : State) (x : Reg8) (v : Byte) : (s.setReg8 x v).cost = s.cost := rfl
@[simp] theorem State.setReg8_read (s : State) (x : Reg8) (v : Byte) (adr : Word) : (s.setReg8 x v).read adr = s.read adr := rfl

/-! ## `setF` -/

@[simp] theorem State.setF_regs (s : State) (v : Byte) : (s.setF v).regs = { s.regs with f := v &&& 0xF0#8 } := rfl
@[simp] theorem State.setF_sp (s : State) (v : Byte) : (s.setF v).sp = s.sp := rfl
@[simp] theorem State.setF_pc (s : State) (v : Byte) : (s.setF v).pc = s.pc := rfl
@[simp] theorem State.setF_ime (s : State) (v : Byte) : (s.setF v).ime = s.ime := rfl
@[simp] theorem State.setF_imePending (s : State) (v : Byte) : (s.setF v).imePending = s.imePending := rfl
@[simp] theorem State.setF_halted (s : State) (v : Byte) : (s.setF v).halted = s.halted := rfl
@[simp] theorem State.setF_fault (s : State) (v : Byte) : (s.setF v).fault = s.fault := rfl
@[simp] theorem State.setF_mmu (s : State) (v : Byte) : (s.setF v).mmu = s.mmu := rfl
@[simp] theorem State.setF_config (s : State) (v : Byte) : (s.setF v).config = s.config := rfl
@[simp] theorem State.setF_keyEvents (s : State) (v : Byte) : (s.setF v).keyEvents = s.keyEvents := rfl
@[simp] theorem State.setF_debugger (s : State) (v : Byte) : (s.setF v).debugger = s.debugger := rfl
@[simp] theorem State.setF_cost (s : State) (v : Byte) : (s.setF v).cost = s.cost := rfl
@[simp] theorem State.setF_read (s : State) (v : Byte) (adr : Word) : (s.setF v).read adr = s.read adr := rfl

/-! ## `setBC` -/

@[simp] theorem State.setBC_regs (s : State) (v : Word) : (s.setBC v).regs = { s.regs with b := hi8 v, c := lo8 v } := rfl
@[simp] theorem State.setBC_sp (s : State) (v : Word) : (s.setBC v).sp = s.sp := rfl
@[simp] theorem State.setBC_pc (s : State) (v : Word) : (s.setBC v).pc = s.pc := rfl
@[simp] theorem State.setBC_ime (s : State) (v : Word) : (s.setBC v).ime = s.ime := rfl
@[simp] theorem State.setBC_imePending (s : State) (v : Word) : (s.setBC v).imePending = s.imePending := rfl
@[simp] theorem State.setBC_halted (s : State) (v : Word) : (s.setBC v).halted = s.halted := rfl
@[simp] theorem State.setBC_fault (s : State) (v : Word) : (s.setBC v).fault = s.fault := rfl
@[simp] theorem State.setBC_mmu (s : State) (v : Word) : (s.setBC v).mmu = s.mmu := rfl
@[simp] theorem State.setBC_config (s : State) (v : Word) : (s.setBC v).config = s.config := rfl
@[simp] theorem State.setBC_keyEvents (s : State) (v : Word) : (s.setBC v).keyEvents = s.keyEvents := rfl
@[simp] theorem State.setBC_debugger (s : State) (v : Word) : (s.setBC v).debugger = s.debugger := rfl
@[simp] theorem State.setBC_cost (s : State) (v : Word) : (s.setBC v).cost = s.cost := rfl
@[simp] theorem State.setBC_read (s : State) (v : Word) (adr : Word) : (s.setBC v).read adr = s.read adr := rfl

/-! ## `setDE` -/

@[simp] theorem State.setDE_regs (s : State) (v : Word) : (s.setDE v).regs = { s.regs with d := hi8 v, e := lo8 v } := rfl
@[simp] theorem State.setDE_sp (s : State) (v : Word) : (s.setDE v).sp = s.sp := rfl
@[simp] theorem State.setDE_pc (s : State) (v : Word) : (s.setDE v).pc = s.pc := rfl
@[simp] theorem State.setDE_ime (s : State) (v : Word) : (s.setDE v).ime = s.ime := rfl
@[simp] theorem State.setDE_imePending (s : State) (v : Word) : (s.setDE v).imePending = s.imePending := rfl
@[simp] theorem State.setDE_halted (s : State) (v : Word) : (s.setDE v).halted = s.halted := rfl
@[simp] theorem State.setDE_fault (s : State) (v : Word) : (s.setDE v).fault = s.fault := rfl
@[simp] theorem State.setDE_mmu (s : State) (v : Word) : (s.setDE v).mmu = s.mmu := rfl
@[simp] theorem State.setDE_config (s : State) (v : Word) : (s.setDE v).config = s.config := rfl
@[simp] theorem State.setDE_keyEvents (s : State) (v : Word) : (s.setDE v).keyEvents = s.keyEvents := rfl
@[simp] theorem State.setDE_debugger (s : State) (v : Word) : (s.setDE v).debugger = s.debugger := rfl
@[simp] theorem State.setDE_cost (s : State) (v : Word) : (s.setDE v).cost = s.cost := rfl
@[simp] theorem State.setDE_read (s : State) (v : Word) (adr : Word) : (s.setDE v).read adr = s.read adr := rfl

/-! ## `setHL` -/

@[simp] theorem State.setHL_regs (s : State) (v : Word) : (s.setHL v).regs = { s.regs with h := hi8 v, l := lo8 v } := rfl
@[simp] theorem State.setHL_sp (s : State) (v : Word) : (s.setHL v).sp = s.sp := rfl
@[simp] theorem State.setHL_pc (s : State) (v : Word) : (s.setHL v).pc = s.pc := rfl
@[simp] theorem State.setHL_ime (s : State) (v : Word) : (s.setHL v).ime = s.ime := rfl
@[simp] theorem State.setHL_imePending (s : State) (v : Word) : (s.setHL v).imePending = s.imePending := rfl
@[simp] theorem State.setHL_halted (s : State) (v : Word) : (s.setHL v).halted = s.halted := rfl
@[simp] theorem State.setHL_fault (s : State) (v : Word) : (s.setHL v).fault = s.fault := rfl
@[simp] theorem State.setHL_mmu (s : State) (v : Word) : (s.setHL v).mmu = s.mmu := rfl
@[simp] theorem State.setHL_config (s : State) (v : Word) : (s.setHL v).config = s.config := rfl
@[simp] theorem State.setHL_keyEvents (s : State) (v : Word) : (s.setHL v).keyEvents = s.keyEvents := rfl
@[simp] theorem State.setHL_debugger (s : State) (v : Word) : (s.setHL v).debugger = s.debugger := rfl
@[simp] theorem State.setHL_cost (s : State) (v : Word) : (s.setHL v).cost = s.cost := rfl
@[simp] theorem State.setHL_read (s : State) (v : Word) (adr : Word) : (s.setHL v).read adr = s.read adr := rfl

/-! ## `setAF` -/

@[simp] theorem State.setAF_regs (s : State) (v : Word) : (s.setAF v).regs = { s.regs with a := hi8 v, f := lo8 v &&& 0xF0#8 } := rfl
@[simp] theorem State.setAF_sp (s : State) (v : Word) : (s.setAF v).sp = s.sp := rfl
@[simp] theorem State.setAF_pc (s : State) (v : Word) : (s.setAF v).pc = s.pc := rfl
@[simp] theorem State.setAF_ime (s : State) (v : Word) : (s.setAF v).ime = s.ime := rfl
@[simp] theorem State.setAF_imePending (s : State) (v : Word) : (s.setAF v).imePending = s.imePending := rfl
@[simp] theorem State.setAF_halted (s : State) (v : Word) : (s.setAF v).halted = s.halted := rfl
@[simp] theorem State.setAF_fault (s : State) (v : Word) : (s.setAF v).fault = s.fault := rfl
@[simp] theorem State.setAF_mmu (s : State) (v : Word) : (s.setAF v).mmu = s.mmu := rfl
@[simp] theorem State.setAF_config (s : State) (v : Word) : (s.setAF v).config = s.config := rfl
@[simp] theorem State.setAF_keyEvents (s : State) (v : Word) : (s.setAF v).keyEvents = s.keyEvents := rfl
@[simp] theorem State.setAF_debugger (s : State) (v : Word) : (s.setAF v).debugger = s.debugger := rfl
@[simp] theorem State.setAF_cost (s : State) (v : Word) : (s.setAF v).cost = s.cost := rfl
@[simp] theorem State.setAF_read (s : State) (v : Word) (adr : Word) : (s.setAF v).read adr = s.read adr := rfl

/-! ## `setSP` -/

@[simp] theorem State.setSP_regs (s : State) (v : Word) : (s.setSP v).regs = s.regs := rfl
@[simp] theorem State.setSP_sp (s : State) (v : Word) : (s.setSP v).sp = v := rfl
@[simp] theorem State.setSP_pc (s : State) (v : Word) : (s.setSP v).pc = s.pc := rfl
@[simp] theorem State.setSP_ime (s : State) (v : Word) : (s.setSP v).ime = s.ime := rfl
@[simp] theorem State.setSP_imePending (s : State) (v : Word) : (s.setSP v).imePending = s.imePending := rfl
@[simp] theorem State.setSP_halted (s : State) (v : Word) : (s.setSP v).halted = s.halted := rfl
@[simp] theorem State.setSP_fault (s : State) (v : Word) : (s.setSP v).fault = s.fault := rfl
@[simp] theorem State.setSP_mmu (s : State) (v : Word) : (s.setSP v).mmu = s.mmu := rfl
@[simp] theorem State.setSP_config (s : State) (v : Word) : (s.setSP v).config = s.config := rfl
@[simp] theorem State.setSP_keyEvents (s : State) (v : Word) : (s.setSP v).keyEvents = s.keyEvents := rfl
@[simp] theorem State.setSP_debugger (s : State) (v : Word) : (s.setSP v).debugger = s.debugger := rfl
@[simp] theorem State.setSP_cost (s : State) (v : Word) : (s.setSP v).cost = s.cost := rfl
@[simp] theorem State.setSP_read (s : State) (v : Word) (adr : Word) : (s.setSP v).read adr = s.read adr := rfl

/-! ## `jump` -/

@[simp] theorem State.jump_regs (s : State) (v : Word) : (s.jump v).regs = s.regs := rfl
@[simp] theorem State.jump_sp (s : State) (v : Word) : (s.jump v).sp = s.sp := rfl
@[simp] theorem State.jump_pc (s : State) (v : Word) : (s.jump v).pc = v := rfl
@[simp] theorem State.jump_ime (s : State) (v : Word) : (s.jump v).ime = s.ime := rfl
@[simp] theorem State.jump_imePending (s : State) (v : Word) : (s.jump v).imePending = s.imePending := rfl
@[simp] theorem State.jump_halted (s : State) (v : Word) : (s.jump v).halted = s.halted := rfl
@[simp] theorem State.jump_fault (s : State) (v : Word) : (s.jump v).fault = s.fault := rfl
@[simp] theorem State.jump_mmu (s : State) (v : Word) : (s.jump v).mmu = s.mmu := rfl
@[simp] theorem State.jump_config (s : State) (v : Word) : (s.jump v).config = s.config := rfl
@[simp] theorem State.jump_keyEvents (s : State) (v : Word) : (s.jump v).keyEvents = s.keyEvents := rfl
@[simp] theorem State.jump_debugger (s : State) (v : Word) : (s.jump v).debugger = s.debugger := rfl
@[simp] theorem State.jump_cost (s : State) (v : Word) : (s.jump v).cost = s.cost := rfl
@[simp] theorem State.jump_read (s : State) (v : Word) (adr : Word) : (s.jump v).read adr = s.read adr := rfl

/-! ## `setFlags` -/

@[simp] theorem State.setFlags_regs (s : State) (z n h c : Bool) : (s.setFlags z n h c).regs = { s.regs with f := packF z n h c } := rfl
@[simp] theorem State.setFlags_sp (s : State) (z n h c : Bool) : (s.setFlags z n h c).sp = s.sp := rfl
@[simp] theorem State.setFlags_pc (s : State) (z n h c : Bool) : (s.setFlags z n h c).pc = s.pc := rfl
@[simp] theorem State.setFlags_ime (s : State) (z n h c : Bool) : (s.setFlags z n h c).ime = s.ime := rfl
@[simp] theorem State.setFlags_imePending (s : State) (z n h c : Bool) : (s.setFlags z n h c).imePending = s.imePending := rfl
@[simp] theorem State.setFlags_halted (s : State) (z n h c : Bool) : (s.setFlags z n h c).halted = s.halted := rfl
@[simp] theorem State.setFlags_fault (s : State) (z n h c : Bool) : (s.setFlags z n h c).fault = s.fault := rfl
@[simp] theorem State.setFlags_mmu (s : State) (z n h c : Bool) : (s.setFlags z n h c).mmu = s.mmu := rfl
@[simp] theorem State.setFlags_config (s : State) (z n h c : Bool) : (s.setFlags z n h c).config = s.config := rfl
@[simp] theorem State.setFlags_keyEvents (s : State) (z n h c : Bool) : (s.setFlags z n h c).keyEvents = s.keyEvents := rfl
@[simp] theorem State.setFlags_debugger (s : State) (z n h c : Bool) : (s.setFlags z n h c).debugger = s.debugger := rfl
@[simp] theorem State.setFlags_cost (s : State) (z n h c : Bool) : (s.setFlags z n h c).cost = s.cost := rfl
@[simp] theorem State.setFlags_read (s : State) (z n h c : Bool) (adr : Word) : (s.setFlags z n h c).read adr = s.read adr := rfl

/-! ## `putAF` -/

@[simp] theorem State.putAF_regs (s : State) (r : Byte × Byte) : (s.putAF r).regs = { s.regs with a := r.1, f := r.2 } := rfl
@[simp] theorem State.putAF_sp (s : State) (r : Byte × Byte) : (s.putAF r).sp = s.sp := rfl
@[simp] theorem State.putAF_pc (s : State) (r : Byte × Byte) : (s.putAF r).pc = s.pc := rfl
@[simp] theorem State.putAF_ime (s : State) (r : Byte × Byte) : (s.putAF r).ime = s.ime := rfl
@[simp] theorem State.putAF_imePending (s : State) (r : Byte × Byte) : (s.putAF r).imePending = s.imePending := rfl
@[simp] theorem State.putAF_halted (s : State) (r : Byte × Byte) : (s.putAF r).halted = s.halted := rfl
@[simp] theorem State.putAF_fault (s : State) (r : Byte × Byte) : (s.putAF r).fault = s.fault := rfl
@[simp] theorem State.putAF_mmu (s : State) (r : Byte × Byte) : (s.putAF r).mmu = s.mmu := rfl
@[simp] theorem State.putAF_config (s : State) (r : Byte × Byte) : (s.putAF r).config = s.config := rfl
@[simp] theorem State.putAF_keyEvents (s : State) (r : Byte × Byte) : (s.putAF r).keyEvents = s.keyEvents := rfl
@[simp] theorem State.putAF_debugger (s : State) (r : Byte × Byte) : (s.putAF r).debugger = s.debugger := rfl
@[simp] theorem State.putAF_cost (s : State) (r : Byte × Byte) : (s.putAF r).cost = s.cost := rfl
@[simp] theorem State.putAF_read (s : State) (r : Byte × Byte) (adr : Word) : (s.putAF r).read adr = s.read adr := rfl

/-! ## `putF` -/

@[simp] theorem State.putF_regs (s : State) (v : Byte) : (s.putF v).regs = { s.regs with f := v } := rfl
@[simp] theorem State.putF_sp (s : State) (v : Byte) : (s.putF v).sp = s.sp := rfl
@[simp] theorem State.putF_pc (s : State) (v : Byte) : (s.putF v).pc = s.pc := rfl
@[simp] theorem State.putF_ime (s : State) (v : Byte) : (s.putF v).ime = s.ime := rfl
@[simp] theorem State.putF_imePending (s : State) (v : Byte) : (s.putF v).imePending = s.imePending := rfl
@[simp] theorem State.putF_halted (s : State) (v : Byte) : (s.putF v).halted = s.halted := rfl
@[simp] theorem State.putF_fault (s : State) (v : Byte) : (s.putF v).fault = s.fault := rfl
@[simp] theorem State.putF_mmu (s : State) (v : Byte) : (s.putF v).mmu = s.mmu := rfl
@[simp] theorem State.putF_config (s : State) (v : Byte) : (s.putF v).config = s.config := rfl
@[simp] theorem State.putF_keyEvents (s : State) (v : Byte) : (s.putF v).keyEvents = s.keyEvents := rfl
@[simp] theorem State.putF_debugger (s : State) (v : Byte) : (s.putF v).debugger = s.debugger := rfl
@[simp] theorem State.putF_cost (s : State) (v : Byte) : (s.putF v).cost = s.cost := rfl
@[simp] theorem State.putF_read (s : State) (v : Byte) (adr : Word) : (s.putF v).read adr = s.read adr := rfl

/-! ## `store` -/

@[simp] theorem State.store_regs (s : State) (a : Word) (v : Byte) : (s.store a v).regs = s.regs := rfl
@[simp] theorem State.store_sp (s : State) (a : Word) (v : Byte) : (s.store a v).sp = s.sp := rfl
@[simp] theorem State.store_pc (s : State) (a : Word) (v : Byte) : (s.store a v).pc = s.pc := rfl
@[simp] theorem State.store_ime (s : State) (a : Word) (v : Byte) : (s.store a v).ime = s.ime := rfl
@[simp] theorem State.store_imePending (s : State) (a : Word) (v : Byte) : (s.store a v).imePending = s.imePending := rfl
@[simp] theorem State.store_halted (s : State) (a : Word) (v : Byte) : (s.store a v).halted = s.halted := rfl
@[simp] theorem State.store_fault (s : State) (a : Word) (v : Byte) : (s.store a v).fault = s.fault := rfl
@[simp] theorem State.store_mmu (s : State) (a : Word) (v : Byte) : (s.store a v).mmu = s.mmu.write s.config a v := rfl
@[simp] theorem State.store_config (s : State) (a : Word) (v : Byte) : (s.store a v).config = s.config := rfl
@[simp] theorem State.store_keyEvents (s : State) (a : Word) (v : Byte) : (s.store a v).keyEvents = s.keyEvents := rfl
@[simp] theorem State.store_debugger (s : State) (a : Word) (v : Byte) : (s.store a v).debugger = s.debugger := rfl
@[simp] theorem State.store_cost (s : State) (a : Word) (v : Byte) : (s.store a v).cost = s.cost := rfl

/-! ## `raise` -/

@[simp] theorem State.raise_regs (s : State) (f : Fault) : (s.raise f).regs = s.regs := rfl
@[simp] theorem State.raise_sp (s : State) (f : Fault) : (s.raise f).sp = s.sp := rfl
@[simp] theorem State.raise_pc (s : State) (f : Fault) : (s.raise f).pc = s.pc := rfl
@[simp] theorem State.raise_ime (s : State) (f : Fault) : (s.raise f).ime = s.ime := rfl
@[simp] theorem State.raise_imePending (s : State) (f : Fault) : (s.raise f).imePending = s.imePending := rfl
@[simp] theorem State.raise_halted (s : State) (f : Fault) : (s.raise f).halted = s.halted := rfl
@[simp] theorem State.raise_fault (s : State) (f : Fault) : (s.raise f).fault = some f := rfl
@[simp] theorem State.raise_mmu (s : State) (f : Fault) : (s.raise f).mmu = s.mmu := rfl
@[simp] theorem State.raise_config (s : State) (f : Fault) : (s.raise f).config = s.config := rfl
@[simp] theorem State.raise_keyEvents (s : State) (f : Fault) : (s.raise f).keyEvents = s.keyEvents := rfl
@[simp] theorem State.raise_debugger (s : State) (f : Fault) : (s.raise f).debugger = s.debugger := rfl
@[simp] theorem State.raise_cost (s : State) (f : Fault) : (s.raise f).cost = s.cost := rfl
@[simp] theorem State.raise_read (s : State) (f : Fault) (adr : Word) : (s.raise f).read adr = s.read adr := rfl

/-! ## `setPair` and `setStackPair` -/

@[simp] theorem State.setPair_pc (s : State) (p : Pair) (v : Word) : (s.setPair p v).pc = s.pc := by cases p <;> rfl
@[simp] theorem State.setPair_ime (s : State) (p : Pair) (v : Word) : (s.setPair p v).ime = s.ime := by cases p <;> rfl
@[simp] theorem State.setPair_imePending (s : State) (p : Pair) (v : Word) : (s.setPair p v).imePending = s.imePending := by cases p <;> rfl
@[simp] theorem State.setPair_halted (s : State) (p : Pair) (v : Word) : (s.setPair p v).halted = s.halted := by cases p <;> rfl
@[simp] theorem State.setPair_fault (s : State) (p : Pair) (v : Word) : (s.setPair p v).fault = s.fault := by cases p <;> rfl
@[simp] theorem State.setPair_mmu (s : State) (p : Pair) (v : Word) : (s.setPair p v).mmu = s.mmu := by cases p <;> rfl
@[simp] theorem State.setPair_config (s : State) (p : Pair) (v : Word) : (s.setPair p v).config = s.config := by cases p <;> rfl
@[simp] theorem State.setPair_keyEvents (s : State) (p : Pair) (v : Word) : (s.setPair p v).keyEvents = s.keyEvents := by cases p <;> rfl
@[simp] theorem State.setPair_debugger (s : State) (p : Pair) (v : Word) : (s.setPair p v).debugger = s.debugger := by cases p <;> rfl
@[simp] theorem State.setPair_cost (s : State) (p : Pair) (v : Word) : (s.setPair p v).cost = s.cost := by cases p <;> rfl
@[simp] theorem State.setPair_read (s : State) (p : Pair) (v x : Word) : (s.setPair p v).read x = s.read x := by cases p <;> rfl
@[simp] theorem State.setStackPair_sp (s : State) (p : StackPair) (v : Word) : (s.setStackPair p v).sp = s.sp := by cases p <;> rfl
@[simp] theorem State.setStackPair_pc (s : State) (p : StackPair) (v : Word) : (s.setStackPair p v).pc = s.pc := by cases p <;> rfl
@[simp] theorem State.setStackPair_ime (s : State) (p : StackPair) (v : Word) : (s.setStackPair p v).ime = s.ime := by cases p <;> rfl
@[simp] theorem State.setStackPair_imePending (s : State) (p : StackPair) (v : Word) : (s.setStackPair p v).imePending = s.imePending := by cases p <;> rfl
@[simp] theorem State.setStackPair_halted (s : State) (p : StackPair) (v : Word) : (s.setStackPair p v).halted = s.halted := by cases p <;> rfl
@[simp] theorem State.setStackPair_fault (s : State) (p : StackPair) (v : Word) : (s.setStackPair p v).fault = s.fault := by cases p <;> rfl
@[simp] theorem State.setStackPair_mmu (s : State) (p : StackPair) (v : Word) : (s.setStackPair p v).mmu = s.mmu := by cases p <;> rfl
@[simp] theorem State.setStackPair_config (s : State) (p : StackPair) (v : Word) : (s.setStackPair p v).config = s.config := by cases p <;> rfl
@[simp] theorem State.setStackPair_keyEvents (s : State) (p : StackPair) (v : Word) : (s.setStackPair p v).keyEvents = s.keyEvents := by cases p <;> rfl
@[simp] theorem State.setStackPair_debugger (s : State) (p : StackPair) (v : Word) : (s.setStackPair p v).debugger = s.debugger := by cases p <;> rfl
@[simp] theorem State.setStackPair_cost (s : State) (p : StackPair) (v : Word) : (s.setStackPair p v).cost = s.cost := by cases p <;> rfl
@[simp] theorem State.setStackPair_read (s : State) (p : StackPair) (v x : Word) : (s.setStackPair p v).read x = s.read x := by cases p <;> rfl

/-! ## The register file -/

@[simp] theorem Regs.set8_f (r : Regs) (x : Reg8) (v : Byte) : (r.set8 x v).f = r.f := by cases x <;> rfl

@[simp] theorem State.reg8_tick (s : State) (k : Nat) (x : Reg8) : (s.tick k).reg8 x = s.reg8 x := by cases x <;> rfl

@[simp] theorem State.reg8_store (s : State) (a : Word) (v : Byte) (x : Reg8) : (s.store a v).reg8 x = s.reg8 x := by
  cases x <;> rfl

/-- A register reads what was written to it, and every other register reads as before. -/
theorem State.reg8_setReg8 (s : State) (x y : Reg8) (v : Byte) :
    (s.setReg8 x v).reg8 y = if y = x then v else s.reg8 y := by
  cases x <;> cases y <;> rfl

/-! ## Words -/

@[simp] theorem hi8_word16 (a b : Byte) : hi8 (word16 a b) = a := by
  unfold hi8 word16; ext i hi
  have e := BitVec.getLsbD_append (x := a) (y := b) (i := 8 + i)
  simp_all

@[simp] theorem lo8_word16 (a b : Byte) : lo8 (word16 a b) = b := by
  unfold lo8 word16; ext i hi
  have e := BitVec.getLsbD_append (x := a) (y := b) (i := i)
  simp_all

@[simp] theorem word16_hi8_lo8 (w : Word) : word16 (hi8 w) (lo8 w) = w := by
  unfold hi8 lo8 word16; ext i hi
  simp only [BitVec.getElem_append]
  split
  · simp [BitVec.getLsbD_eq_getElem hi]
  · have e : 8 + (i - 8) = i := by omega
    simp [e, BitVec.getLsbD_eq_getElem hi]

@[simp] theorem State.bc_setBC (s : State) (v : Word) : (s.setBC v).bc = v := word16_hi8_lo8 v
@[simp] theorem State.de_setDE (s : State) (v : Word) : (s.setDE v).de = v := word16_hi8_lo8 v
@[simp] theorem State.hl_setHL (s : State) (v : Word) : (s.setHL v).hl = v := word16_hi8_lo8 v

/-- A pair reads what was written to it. -/
theorem State.pair_setPair (s : State) (p : Pair) (v : Word) : (s.setPair p v).pair p = v := by
  cases p <;> simp [State.setPair, State.pair]

/-! ## Flags -/

@[simp] theorem packF_z (z n h c : Bool) : (packF z n h c).getLsbD 7 = z := by
  cases z <;> cases n <;> cases h <;> cases c <;> rfl
@[simp] theorem packF_n (z n h c : Bool) : (packF z n h c).getLsbD 6 = n := by
  cases z <;> cases n <;> cases h <;> cases c <;> rfl
@[simp] theorem packF_h (z n h c : Bool) : (packF z n h c).getLsbD 5 = h := by
  cases z <;> cases n <;> cases h <;> cases c <;> rfl
@[simp] theorem packF_c (z n h c : Bool) : (packF z n h c).getLsbD 4 = c := by
  cases z <;> cases n <;> cases h <;> cases c <;> rfl

/-- Flags written through `packF` leave the low nibble of F zero (R102). -/
@[simp] theorem packF_low (z n h c : Bool) : packF z n h c &&& 0x0F#8 = 0 := by
  cases z <;> cases n <;> cases h <;> cases c <;> rfl

@[simp] theorem and_F0_low (v : Byte) : v &&& 0xF0#8 &&& 0x0F#8 = 0 := by
  ext i hi
  rw [BitVec.and_assoc]; simp

end Sys2Proof.Machine
end

