-- ==== Sys2Proof/Laws/Store.lean ====
section
/-! SUPPORT. The memory map: where an address can lead, and what a store leaves to later reads. -/

namespace Sys2Proof.Machine

/-! ## I/O offsets -/

/-- The offset of a register that is not plain storage (R112). -/
def IoReg.offset : IoReg → Nat
  | .p1 => 0x00 | .div => 0x04 | .tima => 0x05 | .tma => 0x06 | .tac => 0x07 | .ifReg => 0x0F
  | .lcdc => 0x40 | .stat => 0x41 | .scy => 0x42 | .scx => 0x43 | .ly => 0x44 | .lyc => 0x45 | .dma => 0x46
  | .bgp => 0x47 | .obp0 => 0x48 | .obp1 => 0x49 | .wy => 0x4A | .wx => 0x4B | .boot => 0x50
  | .key1 => 0x4D | .vbk => 0x4F | .hdma1 => 0x51 | .hdma2 => 0x52 | .hdma3 => 0x53 | .hdma4 => 0x54 | .hdma5 => 0x55
  | .bcps => 0x68 | .bcpd => 0x69 | .ocps => 0x6A | .ocpd => 0x6B | .svbk => 0x70 | .plain => 0x80

theorem ioReg_beyond {cgb : Bool} {k : Nat} (hk : 0x80 ≤ k) : ioReg cgb k = .plain := by
  have h : ioRegBoth k = .plain := by unfold ioRegBoth; repeat rw [if_neg (by omega)]
  cases cgb
  · exact h
  · show ioRegCgb k = .plain
    unfold ioRegCgb; repeat rw [if_neg (by omega)]
    exact h

theorem ioReg_offset_below : ∀ cgb : Bool, ∀ k < 0x80, ioReg cgb k ≠ .plain → k = (ioReg cgb k).offset := by decide

/-- Every register of its own behaviour has one offset. -/
theorem ioReg_offset {cgb : Bool} {k : Nat} (h : ioReg cgb k ≠ .plain) : k = (ioReg cgb k).offset := by
  by_cases hk : k < 0x80
  · exact ioReg_offset_below cgb k hk h
  · exact absurd (ioReg_beyond (by omega)) h

theorem ioReg_of_eq {cgb : Bool} {k : Nat} {r : IoReg} (h : ioReg cgb k = r) (hr : r ≠ .plain) : k = r.offset := by
  subst h; exact ioReg_offset hr

/-- In DMG mode a CGB register's address is plain storage (R112). -/
theorem ioReg_dmg (k : Nat) : ioReg false k = ioRegBoth k := rfl

/-! ## Where an address leads -/

theorem Cartridge.ramLoc_cases (c : Cartridge) (o : Nat) : c.ramLoc o = .noRam ∨ ∃ k, c.ramLoc o = .extRam k := by
  unfold Cartridge.ramLoc; split <;> simp

theorem unecho_low {n : Nat} (h : n < 0xE000) : unecho n = n := by unfold unecho; rw [if_neg (by omega)]
theorem unecho_high {n : Nat} (h : 0xFE00 ≤ n) : unecho n = n := by unfold unecho; rw [if_neg (by omega)]
theorem unecho_echo {n : Nat} (h : 0xE000 ≤ n) (h' : n < 0xFE00) : unecho n = n - 0x2000 := by
  unfold unecho; rw [if_pos ⟨h, h'⟩]

/-- The map of R201, row by row, the echo resolved. -/
theorem locate_cases (m : Mmu) (x : Word) :
    (m.overlaid (unecho x.toNat) = true ∧ unecho x.toNat < 0x900 ∧ m.locate x = .boot (unecho x.toNat)) ∨
    (m.overlaid (unecho x.toNat) = false ∧
      ((unecho x.toNat < 0x8000 ∧ m.locate x = .rom (m.cart.romIndex (unecho x.toNat))) ∨
       (0x8000 ≤ unecho x.toNat ∧ unecho x.toNat < 0xA000 ∧
          m.locate x = .vram (m.vbank * 0x2000 + (unecho x.toNat - 0x8000))) ∨
       (0xA000 ≤ unecho x.toNat ∧ unecho x.toNat < 0xC000 ∧ m.locate x = m.cart.ramLoc (unecho x.toNat - 0xA000)) ∨
       (0xC000 ≤ unecho x.toNat ∧ unecho x.toNat < 0xD000 ∧ m.locate x = .wram (unecho x.toNat - 0xC000)) ∨
       (0xD000 ≤ unecho x.toNat ∧ unecho x.toNat < 0xE000 ∧
          m.locate x = .wram (m.wbank * 0x1000 + (unecho x.toNat - 0xD000))) ∨
       (0xFE00 ≤ x.toNat ∧ x.toNat < 0xFEA0 ∧ m.locate x = .oam (x.toNat - 0xFE00)) ∨
       (0xFEA0 ≤ x.toNat ∧ x.toNat < 0xFF00 ∧ m.locate x = .unusable) ∨
       (0xFF00 ≤ x.toNat ∧ x.toNat < 0xFF80 ∧ m.locate x = .io (x.toNat - 0xFF00)) ∨
       (0xFF80 ≤ x.toNat ∧ x.toNat < 0xFFFF ∧ m.locate x = .hram (x.toNat - 0xFF80)) ∨
       (x.toNat = 0xFFFF ∧ m.locate x = .ie))) := by
  have hx := x.isLt
  have hu : unecho x.toNat < 0xE000 ∨ 0xFE00 ≤ x.toNat ∧ unecho x.toNat = x.toNat := by
    unfold unecho; split <;> omega
  have hov : m.overlaid (unecho x.toNat) = true → unecho x.toNat < 0x900 := by
    unfold Mmu.overlaid; simp; omega
  generalize hn : unecho x.toNat = n at hu hov ⊢
  unfold Mmu.locate
  simp only [hn]
  by_cases ho : m.overlaid n = true
  · left; exact ⟨ho, hov ho, by simp [ho]⟩
  · right
    simp only [Bool.not_eq_true] at ho
    refine ⟨ho, ?_⟩
    simp only [ho, Bool.false_eq_true, if_false]
    by_cases h1 : n < 0x8000
    · left; exact ⟨h1, by rw [if_pos h1]⟩
    rw [if_neg h1]; right
    by_cases h2 : n < 0xA000
    · left; exact ⟨by omega, h2, by rw [if_pos h2]⟩
    rw [if_neg h2]; right
    by_cases h3 : n < 0xC000
    · left; exact ⟨by omega, h3, by rw [if_pos h3]⟩
    rw [if_neg h3]; right
    by_cases h4 : n < 0xD000
    · left; exact ⟨by omega, h4, by rw [if_pos h4]⟩
    rw [if_neg h4]; right
    by_cases h5 : n < 0xE000
    · left; exact ⟨by omega, h5, by rw [if_pos h5]⟩
    rw [if_neg h5]; right
    obtain ⟨hb, rfl⟩ : 0xFE00 ≤ x.toNat ∧ n = x.toNat := by omega
    by_cases h6 : x.toNat < 0xFEA0
    · left; exact ⟨by omega, h6, by rw [if_pos h6]⟩
    rw [if_neg h6]; right
    by_cases h7 : x.toNat < 0xFF00
    · left; exact ⟨by omega, h7, by rw [if_pos h7]⟩
    rw [if_neg h7]; right
    by_cases h8 : x.toNat < 0xFF80
    · left; exact ⟨by omega, h8, by rw [if_pos h8]⟩
    rw [if_neg h8]; right
    by_cases h9 : x.toNat < 0xFFFF
    · left; exact ⟨by omega, h9, by rw [if_pos h9]⟩
    rw [if_neg h9]; right
    exact ⟨by omega, rfl⟩

/-- The address an I/O register has. -/
theorem locate_io {m : Mmu} {x : Word} {k : Nat} (h : m.locate x = .io k) : x.toNat = 0xFF00 + k ∧ k < 0x80 := by
  rcases locate_cases m x with ⟨-, -, e⟩ | ⟨-, ⟨-, e⟩ | ⟨-, -, e⟩ | ⟨-, -, e⟩ | ⟨-, -, e⟩ | ⟨-, -, e⟩ | ⟨-, -, e⟩ |
    ⟨-, -, e⟩ | ⟨h1, h2, e⟩ | ⟨-, -, e⟩ | ⟨-, e⟩⟩
  case inr.inr.inr.inl =>
    rcases m.cart.ramLoc_cases (unecho x.toNat - 0xA000) with e' | ⟨_, e'⟩ <;> rw [e, e'] at h <;> cases h
  all_goals (rw [e] at h; simp only [reduceCtorEq, Loc.io.injEq] at h)
  omega

/-- Addresses from 0x8000 on never lead to the boot ROM or to cartridge ROM (R201, R203). -/
theorem locate_high {m : Mmu} {x : Word} (h : 0x8000 ≤ x.toNat) :
    (∀ k, m.locate x ≠ .boot k) ∧ ∀ k, m.locate x ≠ .rom k := by
  have hu : 0x8000 ≤ unecho x.toNat := by unfold unecho; split <;> omega
  rcases locate_cases m x with ⟨-, e, -⟩ | ⟨-, ⟨e, -⟩ | ⟨-, -, e⟩ | ⟨-, -, e⟩ | ⟨-, -, e⟩ | ⟨-, -, e⟩ | ⟨-, -, e⟩ |
    ⟨-, -, e⟩ | ⟨-, -, e⟩ | ⟨-, -, e⟩ | ⟨-, e⟩⟩
  case inl => omega
  case inr.inl => omega
  case inr.inr.inr.inl =>
    rcases m.cart.ramLoc_cases (unecho x.toNat - 0xA000) with e' | ⟨_, e'⟩ <;> rw [e, e'] <;>
      simp
  all_goals (rw [e]; simp)

/-- What decides where an address leads: the boot overlay, the bank selects and the cartridge's selectors and counts. -/
theorem locate_congr {m m' : Mmu} (h1 : m'.cgb = m.cgb) (h2 : m'.bootMode = m.bootMode)
    (h3 : m'.video.vbk = m.video.vbk) (h4 : m'.svbk = m.svbk) (h5 : m'.cart.mapper = m.cart.mapper)
    (h6 : m'.cart.nRom = m.cart.nRom) (h7 : m'.cart.nRam = m.cart.nRam) (h8 : m'.cart.sRam = m.cart.sRam) (x : Word) :
    m'.locate x = m.locate x := by
  unfold Mmu.locate Mmu.overlaid Mmu.vbank Mmu.wbank Cartridge.ramLoc Cartridge.romIndex Cartridge.ramIndex
  rw [h1, h2, h3, h4, h5, h6, h7, h8]

/-- What decides what an address reads, when two MMUs lead it to the same place. -/
theorem read_congr {m m' : Mmu} {cfg : Config} {x : Word} (h : m'.locate x = m.locate x)
    (hb : m'.bootRom = m.bootRom) (hr : m'.cart.rom = m.cart.rom)
    (hl : (match m.locate x with
      | .vram k => (bif m'.video.vramBlocked then cfg.blockedRead else m'.video.vram.read k) =
          bif m.video.vramBlocked then cfg.blockedRead else m.video.vram.read k
      | .extRam k => m'.cart.ram.read k = m.cart.ram.read k
      | .wram k => m'.wram.read k = m.wram.read k
      | .oam k => (bif m'.video.oamBlocked then cfg.blockedRead else m'.video.oam.read k) =
          bif m.video.oamBlocked then cfg.blockedRead else m.video.oam.read k
      | .io k => m'.ioRead k = m.ioRead k
      | .hram k => m'.hram.read k = m.hram.read k
      | .ie => m'.intEnable = m.intEnable
      | .boot _ | .rom _ | .noRam | .unusable => True)) : m'.read cfg x = m.read cfg x := by
  unfold Mmu.read
  rw [h, hb, hr]
  cases e : m.locate x <;> rw [e] at hl <;> simp_all

/-! ## The frame of a store -/

theorem vramBlocked_eq {v w : Video} (h1 : w.lcdc = v.lcdc) (h2 : w.mode = v.mode) : w.vramBlocked = v.vramBlocked := by
  unfold Video.vramBlocked Video.lcdOn; rw [h1, h2]

theorem oamBlocked_eq {v w : Video} (h1 : w.lcdc = v.lcdc) (h2 : w.mode = v.mode) : w.oamBlocked = v.oamBlocked := by
  unfold Video.oamBlocked Video.lcdOn; rw [h1, h2]

theorem control_noBank (z : Bool) (p : Mapper) (n : Nat) (v : Byte) (h : p ≠ .noBank) : p.control z n v ≠ .noBank := by
  cases p with
  | noBank => exact absurd rfl h
  | variantA => simp only [Mapper.control]; unfold variantAWrite; repeat' split
                all_goals (intro e; cases e)
  | variantB => simp only [Mapper.control]; unfold variantBWrite; repeat' split
                all_goals (intro e; cases e)
  | variantC => simp only [Mapper.control]; unfold variantCWrite; repeat' split
                all_goals (intro e; cases e)

/-- The bank-0 window shows the same bytes whatever the selectors of a banked cartridge. -/
theorem Cartridge.romIndex_low (c : Cartridge) (q : Mapper) {n : Nat} (h : n < 0x4000) (hp : c.mapper ≠ .noBank)
    (hq : q ≠ .noBank) : Cartridge.romIndex { c with mapper := q } n = c.romIndex n := by
  unfold Cartridge.romIndex
  cases hc : c.mapper <;> cases q <;> first | exact absurd hc hp | exact absurd rfl hq | simp only [if_pos h]

/-- Outside the two switchable windows the selectors of a banked cartridge are not looked at. -/
theorem locate_mapper (m : Mmu) (q : Mapper) (x : Word) (hp : m.cart.mapper ≠ .noBank) (hq : q ≠ .noBank)
    (h1 : ¬ (0x4000 ≤ x.toNat ∧ x.toNat < 0x8000)) (h2 : ¬ (0xA000 ≤ x.toNat ∧ x.toNat < 0xC000)) :
    Mmu.locate { m with cart := { m.cart with mapper := q } } x = m.locate x := by
  have hu : unecho x.toNat = x.toNat ∨ 0xC000 ≤ unecho x.toNat := by unfold unecho; split <;> omega
  unfold Mmu.locate
  refine ite_congr rfl (fun _ => rfl) fun _ => ?_
  refine ite_congr rfl (fun h => ?_) fun _ => ?_
  · exact congrArg Loc.rom (m.cart.romIndex_low q (by omega) hp hq)
  refine ite_congr rfl (fun _ => rfl) fun _ => ?_
  exact ite_congr rfl (fun h => by omega) fun _ => rfl

/-- A control write reaches the two switchable windows at most. -/
theorem control_read_frame (m : Mmu) (cfg : Config) (z : Bool) (n : Nat) (v : Byte) (x : Word)
    (h : m.cart.mapper.touches x.toNat = false) :
    Mmu.read { m with cart := { m.cart with mapper := m.cart.mapper.control z n v } } cfg x = m.read cfg x := by
  by_cases hp : m.cart.mapper = .noBank
  · have : ({ m.cart with mapper := m.cart.mapper.control z n v } : Cartridge) = m.cart := by rw [hp]; simp only [Mapper.control]; rw [← hp]
    rw [this]
  have hb : ¬ (0x4000 ≤ x.toNat ∧ x.toNat < 0x8000) ∧ ¬ (0xA000 ≤ x.toNat ∧ x.toNat < 0xC000) := by
    simp only [Mapper.touches, between, Bool.and_eq_false_iff, Bool.or_eq_false_iff, bne_eq_false_iff_eq, hp,
      false_or, decide_eq_false_iff_not] at h
    omega
  refine read_congr (locate_mapper m _ x hp (control_noBank z _ n v hp) hb.1 hb.2) rfl rfl ?_
  cases m.locate x <;> first | rfl | trivial

/-- Reads agree when two MMUs lead an address to the same place, hold the same bytes there, and agree on the I/O page. -/
theorem read_of_same {m m' : Mmu} {cfg : Config} {x : Word} (h : m'.locate x = m.locate x)
    (hb : m'.bootRom = m.bootRom) (hc : m'.cart = m.cart) (hw : m'.wram = m.wram) (hh : m'.hram = m.hram)
    (hie : m'.intEnable = m.intEnable)
    (hv : ∀ k, m.locate x = .vram k →
      m'.video.vram = m.video.vram ∧ m'.video.vramBlocked = m.video.vramBlocked)
    (ho : ∀ k, m.locate x = .oam k → m'.video.oam = m.video.oam ∧ m'.video.oamBlocked = m.video.oamBlocked)
    (hio : ∀ k, m.locate x = .io k → m'.ioRead k = m.ioRead k) : m'.read cfg x = m.read cfg x := by
  refine read_congr h hb (by rw [hc]) ?_
  cases e : m.locate x with
  | vram k => simp only; rw [(hv k e).1, (hv k e).2]
  | oam k => simp only; rw [(ho k e).1, (ho k e).2]
  | io k => exact hio k e
  | extRam k => simp only; rw [hc]
  | wram k => simp only; rw [hw]
  | hram k => simp only; rw [hh]
  | ie => exact hie
  | _ => trivial

/-- The VRAM window is 0x8000-0x9FFF. -/
theorem locate_vram {m : Mmu} {x : Word} {k : Nat} (h : m.locate x = .vram k) : 0x8000 ≤ x.toNat ∧ x.toNat < 0xA000 := by
  have hu : unecho x.toNat < 0xA000 → unecho x.toNat = x.toNat := by unfold unecho; split <;> omega
  rcases locate_cases m x with ⟨-, -, e⟩ | ⟨-, ⟨-, e⟩ | ⟨h1, h2, e⟩ | ⟨-, -, e⟩ | ⟨-, -, e⟩ | ⟨-, -, e⟩ | ⟨-, -, e⟩ |
    ⟨-, -, e⟩ | ⟨-, -, e⟩ | ⟨-, -, e⟩ | ⟨-, e⟩⟩
  case inr.inr.inr.inl =>
    rcases m.cart.ramLoc_cases (unecho x.toNat - 0xA000) with e' | ⟨_, e'⟩ <;> rw [e, e'] at h <;> cases h
  case inr.inr.inl => omega
  all_goals (rw [e] at h; simp only [reduceCtorEq] at h)

/-- OAM is 0xFE00-0xFE9F. -/
theorem locate_oam {m : Mmu} {x : Word} {k : Nat} (h : m.locate x = .oam k) :
    x.toNat = 0xFE00 + k ∧ k < 160 := by
  rcases locate_cases m x with ⟨-, -, e⟩ | ⟨-, ⟨-, e⟩ | ⟨h1, h2, e⟩ | ⟨-, -, e⟩ | ⟨-, -, e⟩ | ⟨-, -, e⟩ | ⟨h1, h2, e⟩ |
    ⟨-, -, e⟩ | ⟨-, -, e⟩ | ⟨-, -, e⟩ | ⟨-, e⟩⟩
  case inr.inr.inr.inl =>
    rcases m.cart.ramLoc_cases (unecho x.toNat - 0xA000) with e' | ⟨_, e'⟩ <;> rw [e, e'] at h <;> cases h
  all_goals (rw [e] at h; simp only [reduceCtorEq, Loc.oam.injEq] at h)
  omega

/-- The boot overlay ends below 0x900 (R203), and bank selects show in their own windows only. -/
theorem locate_boot_off (m : Mmu) (x : Word) (h : 0x900 ≤ x.toNat) :
    Mmu.locate { m with bootMode := false } x = m.locate x := by
  have hu : 0x900 ≤ unecho x.toNat := by unfold unecho; split <;> omega
  have ho : m.overlaid (unecho x.toNat) = false := by unfold Mmu.overlaid; simp; omega
  unfold Mmu.locate
  simp only [ho]
  rfl

theorem locate_vbk (m : Mmu) (b : BitVec 1) (x : Word) (h : ¬ (0x8000 ≤ x.toNat ∧ x.toNat < 0xA000)) :
    Mmu.locate { m with video := { m.video with vbk := b } } x = m.locate x := by
  have hu : ¬ (0x8000 ≤ unecho x.toNat ∧ unecho x.toNat < 0xA000) := by unfold unecho; split <;> omega
  unfold Mmu.locate
  refine ite_congr rfl (fun _ => rfl) fun _ => ?_
  refine ite_congr rfl (fun _ => rfl) fun _ => ?_
  exact ite_congr rfl (fun _ => by omega) fun _ => rfl

theorem locate_svbk (m : Mmu) (b : BitVec 3) (x : Word) (h : ¬ (0xD000 ≤ x.toNat ∧ x.toNat < 0xE000))
    (h' : ¬ (0xF000 ≤ x.toNat ∧ x.toNat < 0xFE00)) : Mmu.locate { m with svbk := b } x = m.locate x := by
  have hu : ¬ (0xD000 ≤ unecho x.toNat ∧ unecho x.toNat < 0xE000) := by unfold unecho; split <;> omega
  unfold Mmu.locate
  refine ite_congr rfl (fun _ => rfl) fun _ => ?_
  refine ite_congr rfl (fun _ => rfl) fun _ => ?_
  refine ite_congr rfl (fun _ => rfl) fun _ => ?_
  refine ite_congr rfl (fun _ => rfl) fun _ => ?_
  refine ite_congr rfl (fun _ => rfl) fun _ => ?_
  exact ite_congr rfl (fun _ => by omega) fun _ => rfl

theorem writeLcdc_vram (v : Video) (b : Byte) : (v.writeLcdc b).vram = v.vram ∧ (v.writeLcdc b).oam = v.oam := by
  unfold Video.writeLcdc; simp only; split <;> exact ⟨rfl, rfl⟩

/-- A write of LCDC reaches LCDC, STAT and LY on the I/O page (R650). -/
theorem lcdc_ioRead (m : Mmu) (b : Byte) (k : Nat) (h : k ≠ 0x40 ∧ k ≠ 0x41 ∧ k ≠ 0x44) :
    Mmu.ioRead { m with video := m.video.writeLcdc b } k = m.ioRead k := by
  unfold Mmu.ioRead
  show (match ioReg m.cgb k with | _ => _) = _
  cases hr : ioReg m.cgb k with
  | lcdc => exact absurd (ioReg_of_eq hr (by decide)) h.1
  | stat => exact absurd (ioReg_of_eq hr (by decide)) h.2.1
  | ly => exact absurd (ioReg_of_eq hr (by decide)) h.2.2
  | _ => first | rfl | (simp only; unfold Video.writeLcdc; simp only; split <;> rfl)

/-- A store to the I/O page leaves every address it does not touch reading as before. -/
theorem io_read_frame (m : Mmu) (cfg : Config) (k : Nat) (v : Byte) (x : Word)
    (h : (ioReg m.cgb k).touches k x.toNat = false) : (m.ioWrite k v).read cfg x = m.read cfg x := by
  unfold Mmu.ioWrite
  cases hr : ioReg m.cgb k with
  | lcdc =>
    rw [hr] at h
    simp only [IoReg.touches, between, Bool.or_eq_false_iff, Bool.and_eq_false_iff, beq_eq_false_iff_ne,
      decide_eq_false_iff_not] at h
    have hl := locate_congr (m := m) (m' := { m with video := m.video.writeLcdc v }) rfl rfl
      (by simp only [Video.writeLcdc]; split <;> rfl) rfl rfl rfl rfl rfl x
    refine read_of_same hl rfl rfl rfl rfl rfl (fun j e => ?_) (fun j e => ?_) (fun j e => ?_)
    · have := locate_vram e; omega
    · have := locate_oam e; omega
    · have := locate_io e; exact lcdc_ioRead m v j (by omega)
  | boot =>
    rw [hr] at h
    simp only [IoReg.touches, Bool.or_eq_false_iff, beq_eq_false_iff_ne, decide_eq_false_iff_not] at h
    have hk := ioReg_of_eq hr (by decide)
    have hl : Mmu.locate (m.writeBoot k v) x = m.locate x := (locate_boot_off m x (by omega)).symm ▸ rfl
    refine read_of_same hl rfl rfl rfl rfl rfl (fun j e => ⟨rfl, rfl⟩) (fun j e => ⟨rfl, rfl⟩) (fun j e => ?_)
    have hj := locate_io e
    have hne : j ≠ k := by intro e; subst e; simp only [IoReg.offset] at hk; omega
    unfold Mmu.ioRead Mmu.writeBoot
    simp only
    cases hr' : ioReg m.cgb j <;> first | rfl | exact Memory.read_write_other _ _ hne
  | vbk =>
    rw [hr] at h
    simp only [IoReg.touches, between, Bool.or_eq_false_iff, Bool.and_eq_false_iff, beq_eq_false_iff_ne,
      decide_eq_false_iff_not] at h
    refine read_of_same (locate_vbk m _ x (by omega)) rfl rfl rfl rfl rfl (fun j e => ⟨rfl, rfl⟩)
      (fun j e => ⟨rfl, rfl⟩) (fun j e => ?_)
    have hj := locate_io e
    unfold Mmu.ioRead
    simp only
    cases hr' : ioReg m.cgb j <;> first | rfl | (have := ioReg_of_eq hr' (by decide); simp only [IoReg.offset] at this; omega)
  | svbk =>
    rw [hr] at h
    simp only [IoReg.touches, between, Bool.or_eq_false_iff, Bool.and_eq_false_iff, beq_eq_false_iff_ne,
      decide_eq_false_iff_not] at h
    refine read_of_same (locate_svbk m _ x (by omega) (by omega)) rfl rfl rfl rfl rfl (fun j e => ⟨rfl, rfl⟩)
      (fun j e => ⟨rfl, rfl⟩) (fun j e => ?_)
    have hj := locate_io e
    unfold Mmu.ioRead
    simp only
    cases hr' : ioReg m.cgb j <;> first | rfl | (have := ioReg_of_eq hr' (by decide); simp only [IoReg.offset] at this; omega)
  | ly => rfl
  | plain =>
    rw [hr] at h
    simp only [IoReg.touches, beq_eq_false_iff_ne] at h
    refine read_of_same rfl rfl rfl rfl rfl rfl (fun j e => ⟨rfl, rfl⟩) (fun j e => ⟨rfl, rfl⟩) (fun j e => ?_)
    have hj := locate_io e
    have hne : j ≠ k := by omega
    unfold Mmu.ioRead
    simp only
    cases hr' : ioReg m.cgb j <;> first | rfl | exact Memory.read_write_other _ _ hne
  | _ =>
    rw [hr] at h
    simp only [IoReg.touches, Bool.or_eq_false_iff, beq_eq_false_iff_ne] at h
    refine read_of_same rfl rfl rfl rfl rfl rfl (fun j e => ⟨rfl, rfl⟩) (fun j e => ⟨rfl, rfl⟩) (fun j e => ?_)
    have hj := locate_io e
    have hk := ioReg_of_eq hr (by decide)
    simp only [IoReg.offset] at hk
    unfold Mmu.ioRead
    simp only <;>
      cases hr' : ioReg m.cgb j <;> first | rfl | (have := ioReg_of_eq hr' (by decide); simp only [IoReg.offset] at this; omega)

/-- A store leaves every address it does not touch reading as before (R202, R219). -/
theorem Mmu.write_read_frame (m : Mmu) (cfg : Config) (a x : Word) (v : Byte) (h : m.touches a x = false) :
    (m.write cfg a v).read cfg x = m.read cfg x := by
  unfold Mmu.touches at h
  unfold Mmu.write
  by_cases ha : a.toNat < 0x8000
  · rw [if_pos ha] at h ⊢
    exact control_read_frame m cfg _ _ v x h
  rw [if_neg ha] at h ⊢
  cases hl : m.locate a with
  | boot k => rfl
  | rom k => rfl
  | noRam => rfl
  | unusable => rfl
  | vram k =>
    rw [hl] at h; simp only [beq_eq_false_iff_ne] at h ⊢
    refine read_congr rfl rfl rfl ?_
    cases hx : m.locate x <;> first | rfl | trivial | skip
    next j => exact congrArg (fun b => bif _ then _ else b) (Memory.read_write_other _ _ (fun e => h (by rw [hx, e])))
  | extRam k =>
    rw [hl] at h; simp only [beq_eq_false_iff_ne] at h ⊢
    refine read_congr rfl rfl rfl ?_
    cases hx : m.locate x <;> first | rfl | trivial | skip
    next j => exact Memory.read_write_other _ _ (fun e => h (by rw [hx, e]))
  | wram k =>
    rw [hl] at h; simp only [beq_eq_false_iff_ne] at h ⊢
    refine read_congr rfl rfl rfl ?_
    cases hx : m.locate x <;> first | rfl | trivial | skip
    next j => exact Memory.read_write_other _ _ (fun e => h (by rw [hx, e]))
  | oam k =>
    rw [hl] at h; simp only [beq_eq_false_iff_ne] at h ⊢
    refine read_congr rfl rfl rfl ?_
    cases hx : m.locate x <;> first | rfl | trivial | skip
    next j => exact congrArg (fun b => bif _ then _ else b) (Memory.read_write_other _ _ (fun e => h (by rw [hx, e])))
  | hram k =>
    rw [hl] at h; simp only [beq_eq_false_iff_ne] at h ⊢
    refine read_congr rfl rfl rfl ?_
    cases hx : m.locate x <;> first | rfl | trivial | skip
    next j => exact Memory.read_write_other _ _ (fun e => h (by rw [hx, e]))
  | ie =>
    rw [hl] at h; simp only [beq_eq_false_iff_ne] at h ⊢
    refine read_congr rfl rfl rfl ?_
    cases hx : m.locate x <;> first | rfl | trivial
  | io k =>
    rw [hl] at h; simp only at h ⊢
    exact io_read_frame m cfg k v x h

/-- `write_read_frame` from a state. -/
theorem State.store_read_frame (s : State) (a x : Word) (v : Byte) (h : s.touches a x = false) :
    (s.store a v).read x = s.read x :=
  s.mmu.write_read_frame s.config a x v h

/-! ## Plain storage: what is read back -/

theorem Mmu.holds_high {m : Mmu} {a : Word} (h : m.holds a = true) : ¬ a.toNat < 0x8000 := by
  unfold Mmu.holds at h; simp only [Bool.and_eq_true, decide_eq_true_eq] at h; omega

/-- What a store to plain storage does: one storage array, or IE, is written. -/
theorem Mmu.write_holds {m : Mmu} {cfg : Config} {a : Word} {v : Byte} (h : m.holds a = true) :
    (∃ k, m.locate a = .vram k ∧
      m.write cfg a v = { m with video := { m.video with vram := m.video.vram.write k v } }) ∨
    (∃ k, m.locate a = .extRam k ∧ m.write cfg a v = { m with cart := { m.cart with ram := m.cart.ram.write k v } }) ∨
    (∃ k, m.locate a = .wram k ∧ m.write cfg a v = { m with wram := m.wram.write k v }) ∨
    (∃ k, m.locate a = .oam k ∧ m.write cfg a v = { m with video := { m.video with oam := m.video.oam.write k v } }) ∨
    (∃ k, m.locate a = .io k ∧ ioReg m.cgb k = .plain ∧ m.write cfg a v = { m with io := m.io.write k v }) ∨
    (∃ k, m.locate a = .hram k ∧ m.write cfg a v = { m with hram := m.hram.write k v }) ∨
    (m.locate a = .ie ∧ m.write cfg a v = { m with intEnable := v }) := by
  have ha := Mmu.holds_high h
  unfold Mmu.holds at h
  unfold Mmu.write
  rw [if_neg ha]
  cases hl : m.locate a <;> simp only [hl, Bool.and_false, Bool.false_eq_true] at h
  case vram k => exact .inl ⟨k, rfl, rfl⟩
  case extRam k => exact .inr (.inl ⟨k, rfl, rfl⟩)
  case wram k => exact .inr (.inr (.inl ⟨k, rfl, rfl⟩))
  case oam k => exact .inr (.inr (.inr (.inl ⟨k, rfl, rfl⟩)))
  case io k =>
    simp only [Bool.and_eq_true, decide_eq_true_eq, beq_iff_eq] at h
    exact .inr (.inr (.inr (.inr (.inl ⟨k, rfl, h.2, by simp only [Mmu.ioWrite, h.2]⟩))))
  case hram k => exact .inr (.inr (.inr (.inr (.inr (.inl ⟨k, rfl, rfl⟩)))))
  case ie => exact .inr (.inr (.inr (.inr (.inr (.inr ⟨rfl, rfl⟩)))))

/-- A store to plain storage moves no address and blocks none. -/
theorem Mmu.locate_write_of_holds {m : Mmu} {cfg : Config} {a : Word} {v : Byte} (h : m.holds a = true) (x : Word) :
    (m.write cfg a v).locate x = m.locate x := by
  rcases Mmu.write_holds (cfg := cfg) (v := v) h with ⟨k, -, e⟩ | ⟨k, -, e⟩ | ⟨k, -, e⟩ | ⟨k, -, e⟩ | ⟨k, -, -, e⟩ | ⟨k, -, e⟩ | ⟨-, e⟩ <;>
    rw [e] <;> rfl

theorem Mmu.holds_write_of_holds {m : Mmu} {cfg : Config} {a : Word} {v : Byte} (h : m.holds a = true) (x : Word) :
    (m.write cfg a v).holds x = m.holds x := by
  rcases Mmu.write_holds (cfg := cfg) (v := v) h with ⟨k, -, e⟩ | ⟨k, -, e⟩ | ⟨k, -, e⟩ | ⟨k, -, e⟩ | ⟨k, -, -, e⟩ | ⟨k, -, e⟩ | ⟨-, e⟩ <;>
    rw [e] <;> rfl

/-- A read of plain storage returns the latest store. -/
theorem Mmu.write_read_same {m : Mmu} {cfg : Config} {a : Word} {v : Byte} (h : m.holds a = true) :
    (m.write cfg a v).read cfg a = v := by
  have hl := Mmu.locate_write_of_holds (cfg := cfg) (v := v) h a
  unfold Mmu.read
  rw [hl]
  have hh := h
  unfold Mmu.holds at hh
  rcases Mmu.write_holds (cfg := cfg) (v := v) h with ⟨k, e1, e⟩ | ⟨k, e1, e⟩ | ⟨k, e1, e⟩ | ⟨k, e1, e⟩ | ⟨k, e1, hp, e⟩ | ⟨k, e1, e⟩ |
    ⟨e1, e⟩ <;> rw [e1] at hh <;> rw [e1, e] <;> simp only [Bool.and_eq_true, decide_eq_true_eq, Bool.not_eq_true'] at hh ⊢
  · show (bif m.video.vramBlocked then _ else _) = v
    rw [hh.2]; exact Memory.read_write_same _ _ _
  · exact Memory.read_write_same _ _ _
  · exact Memory.read_write_same _ _ _
  · show (bif m.video.oamBlocked then _ else _) = v
    rw [hh.2]; exact Memory.read_write_same _ _ _
  · simp only [Mmu.ioRead, hp]; exact Memory.read_write_same _ _ _
  · exact Memory.read_write_same _ _ _

/-- A store to plain storage touches exactly the addresses that lead to its place. -/
theorem Mmu.touches_of_holds {m : Mmu} {a x : Word} (h : m.holds a = true) (hx : m.locate x ≠ m.locate a) :
    m.touches a x = false := by
  have ha := Mmu.holds_high h
  unfold Mmu.holds at h
  unfold Mmu.touches
  rw [if_neg ha]
  cases hl : m.locate a <;> simp only [hl, Bool.and_false, Bool.false_eq_true] at h <;>
    simp only [beq_eq_false_iff_ne] <;> try (rw [hl] at hx; exact hx)
  next k =>
    simp only [Bool.and_eq_true, decide_eq_true_eq, beq_iff_eq] at h
    rw [h.2]
    simp only [IoReg.touches, beq_eq_false_iff_ne]
    intro e
    apply hx
    have hax : x = a := by
      have := locate_io hl
      exact BitVec.eq_of_toNat_eq (by omega)
    rw [hax]

end Sys2Proof.Machine
end

