-- ==== Sys2Proof/Laws/Video.lean ====
section
/-! SUPPORT. The video controller: what a transition and a step leave, that the loop of `video_step` ends, and that the mode
windows are kept. -/

namespace Sys2Proof.Machine

/-! ## What the controller writes (R659) -/

/-- w differs from v at most in LY, the coincidence and mode fields of STAT, the hidden state and the request latch. -/
def Video.Drawn (v w : Video) : Prop :=
  w = { v with coincidence := w.coincidence, mode := w.mode, ly := w.ly, lineCycles := w.lineCycles,
               windowStarted := w.windowStarted, windowLine := w.windowLine, sprites := w.sprites,
               frameComplete := w.frameComplete, pendingVblank := w.pendingVblank, pendingStat := w.pendingStat,
               rowsComposed := w.rowsComposed }

theorem Video.Drawn.refl (v : Video) : v.Drawn v := rfl

theorem Video.Drawn.trans {u v w : Video} (h : u.Drawn v) (h' : v.Drawn w) : u.Drawn w := by
  unfold Video.Drawn at h h' ⊢
  rw [h'] ; simp only; rw [h]

theorem Video.Drawn.lcdOn {v w : Video} (h : v.Drawn w) : w.lcdOn = v.lcdOn := by
  unfold Video.Drawn at h; rw [h]; rfl

theorem enterOam_drawn (v : Video) : v.Drawn v.enterOam := rfl
theorem enterHblank_drawn (v : Video) : v.Drawn v.enterHblank := rfl
theorem enterVblank_drawn (v : Video) : v.Drawn v.enterVblank := rfl
theorem checkCoincidence_drawn (v : Video) : v.Drawn v.checkCoincidence := rfl

theorem armWindow_drawn (v : Video) : v.Drawn v.armWindow := by unfold Video.armWindow; split <;> rfl

theorem afterTransfer_drawn (v : Video) : v.Drawn v.afterTransfer := by
  refine (armWindow_drawn v).trans ?_
  rfl

theorem transition_drawn {v : Video} {cgb : Bool} {sh : Shades} {q : Video × List HostOutput}
    (h : v.transition cgb sh = some q) : v.Drawn q.1 := by
  unfold Video.transition at h
  simp only at h
  repeat' split at h
  all_goals first | (cases h; done) | (simp only [Option.some.injEq] at h; subst h)
  · exact afterTransfer_drawn v
  all_goals rfl

theorem advance_drawn (cgb : Bool) (sh : Shades) :
    ∀ (fuel : Nat) (p : Video × List HostOutput), p.1.Drawn (Video.advance cgb sh fuel p).1 := by
  intro fuel
  induction fuel with
  | zero => intro p; exact Video.Drawn.refl _
  | succ n ih =>
    intro p
    unfold Video.advance
    split
    · exact Video.Drawn.refl _
    · next q hq => exact (transition_drawn hq).trans (ih (q.1, p.2 ++ q.2))

/-- A step of the controller writes nothing else. -/
theorem videoStep_drawn (v : Video) (cgb : Bool) (sh : Shades) (n : Nat) : v.Drawn (v.step cgb sh n).1 := by
  unfold Video.step
  split
  · exact Video.Drawn.trans (v := { v with lineCycles := v.lineCycles + n }) rfl (advance_drawn cgb sh _ _)
  · exact Video.Drawn.refl v

/-! ## The loop ends -/

/-- Counts the transitions that can still come: one for each mode left on the line, and the cycles. -/
def Video.rank (v : Video) : Nat :=
  v.lineCycles + match v.mode with
    | .oamSearch => 2
    | .transfer => 1
    | .hblank => 0
    | .vblank => 0

theorem checkCoincidence_mode (v : Video) : v.checkCoincidence.mode = v.mode := rfl
theorem checkCoincidence_lineCycles (v : Video) : v.checkCoincidence.lineCycles = v.lineCycles := rfl
theorem checkCoincidence_ly (v : Video) : v.checkCoincidence.ly = v.ly := rfl
theorem checkCoincidence_sprites (v : Video) : v.checkCoincidence.sprites = v.sprites := rfl

@[simp] theorem afterTransfer_mode (v : Video) : v.afterTransfer.mode = .transfer := rfl
@[simp] theorem afterTransfer_lineCycles (v : Video) : v.afterTransfer.lineCycles = v.lineCycles := by
  unfold Video.afterTransfer Video.armWindow; simp only; split <;> rfl
@[simp] theorem afterTransfer_ly (v : Video) : v.afterTransfer.ly = v.ly := by
  unfold Video.afterTransfer Video.armWindow; simp only; split <;> rfl
@[simp] theorem afterTransfer_sprites (v : Video) : v.afterTransfer.sprites = v.sprites := by
  unfold Video.afterTransfer Video.armWindow; simp only; split <;> rfl

@[simp] theorem enterHblank_mode (v : Video) : v.enterHblank.mode = .hblank := rfl
@[simp] theorem enterHblank_lineCycles (v : Video) : v.enterHblank.lineCycles = v.lineCycles := rfl
@[simp] theorem enterHblank_ly (v : Video) : v.enterHblank.ly = v.ly := rfl
@[simp] theorem enterHblank_sprites (v : Video) : v.enterHblank.sprites = v.sprites := rfl
@[simp] theorem enterOam_mode (v : Video) : v.enterOam.mode = .oamSearch := rfl
@[simp] theorem enterOam_lineCycles (v : Video) : v.enterOam.lineCycles = v.lineCycles := rfl
@[simp] theorem enterOam_ly (v : Video) : v.enterOam.ly = v.ly := rfl
@[simp] theorem enterOam_sprites (v : Video) : v.enterOam.sprites = v.spriteScan v.ly.toNat := rfl
@[simp] theorem enterVblank_mode (v : Video) : v.enterVblank.mode = .vblank := rfl
@[simp] theorem enterVblank_lineCycles (v : Video) : v.enterVblank.lineCycles = v.lineCycles := rfl
@[simp] theorem enterVblank_ly (v : Video) : v.enterVblank.ly = v.ly := rfl
@[simp] theorem enterVblank_sprites (v : Video) : v.enterVblank.sprites = v.sprites := rfl

theorem transition_rank {v : Video} {cgb : Bool} {sh : Shades} {q : Video × List HostOutput}
    (h : v.transition cgb sh = some q) : q.1.rank < v.rank := by
  unfold Video.transition at h
  simp only at h
  split at h <;> rename_i hm <;> repeat' split at h
  all_goals first | (cases h; done) | (simp only [Option.some.injEq] at h; subst h)
  all_goals simp only [Video.rank, hm, afterTransfer_mode, afterTransfer_lineCycles, enterHblank_mode,
    enterHblank_lineCycles, enterOam_mode, enterOam_lineCycles, enterVblank_mode, enterVblank_lineCycles,
    checkCoincidence_mode, checkCoincidence_lineCycles]
  all_goals omega

/-- With fuel above the rank the loop runs until no transition is due. -/
theorem advance_settles (cgb : Bool) (sh : Shades) :
    ∀ (fuel : Nat) (p : Video × List HostOutput), p.1.rank < fuel →
      (Video.advance cgb sh fuel p).1.transition cgb sh = none := by
  intro fuel
  induction fuel with
  | zero => intro p h; omega
  | succ n ih =>
    intro p h
    unfold Video.advance
    split
    · assumption
    · next q hq => exact ih (q.1, p.2 ++ q.2) (by have := transition_rank hq; simp only; omega)

/-- After a step of the controller no transition is due: its loop has ended (R643). -/
theorem videoStep_settles (v : Video) (cgb : Bool) (sh : Shades) (n : Nat) (h : v.lcdOn = true) :
    (v.step cgb sh n).1.transition cgb sh = none := by
  unfold Video.step
  rw [if_pos h]
  apply advance_settles
  unfold Video.rank
  simp only
  split <;> omega

/-! ## The mode windows -/

/-- The windows without their upper ends, which the loop restores. -/
def Video.placing (v : Video) : Prop :=
  match v.mode with
  | .oamSearch => v.ly.toNat < 144
  | .transfer => v.ly.toNat < 144 ∧ 80 ≤ v.lineCycles
  | .hblank => v.ly.toNat < 144 ∧ 252 ≤ v.lineCycles
  | .vblank => 144 ≤ v.ly.toNat ∧ v.ly.toNat < 154

theorem spriteScan_listed (v : Video) (ly : Nat) :
    (v.spriteScan ly).length ≤ 10 ∧ (v.spriteScan ly).Pairwise (· < ·) ∧ ∀ k ∈ v.spriteScan ly, k < 40 := by
  unfold Video.spriteScan
  refine ⟨List.length_take_le _ _, ?_, fun k hk => ?_⟩
  · exact (List.pairwise_lt_range.filter _).sublist (List.take_sublist _ _)
  · exact List.mem_range.1 (List.mem_filter.1 (List.mem_of_mem_take hk)).1

theorem transition_placing {v : Video} {cgb : Bool} {sh : Shades} {q : Video × List HostOutput}
    (h : v.transition cgb sh = some q) (hp : v.placing) (hs : v.spritesListed) : q.1.placing ∧ q.1.spritesListed := by
  unfold Video.transition at h
  simp only at h
  split at h <;> rename_i hm <;> simp only [Video.placing, hm] at hp
  · split at h
    · cases h
      refine ⟨?_, ?_⟩
      · simp only [Video.placing, afterTransfer_mode, afterTransfer_ly, afterTransfer_lineCycles]; omega
      · simpa only [Video.spritesListed, afterTransfer_sprites] using hs
    · cases h
  · split at h
    · cases h
      exact ⟨by simp only [Video.placing, enterHblank_mode, enterHblank_ly, enterHblank_lineCycles]; omega, hs⟩
    · cases h
  · split at h
    · have hl : (v.ly + 1).toNat = v.ly.toNat + 1 := by rw [BitVec.toNat_add]; have := v.ly.isLt; simp; omega
      split at h <;> cases h
      · next he =>
        refine ⟨?_, hs⟩
        simp only [Video.placing, enterVblank_mode, enterVblank_ly]
        rw [he]; decide
      · next hne =>
        refine ⟨?_, spriteScan_listed _ _⟩
        simp only [Video.placing, enterOam_mode, enterOam_ly]
        have : (v.ly + 1).toNat ≠ 144 := fun e => hne (BitVec.eq_of_toNat_eq e)
        omega
    · cases h
  · split at h
    · have hl : (v.ly + 1).toNat = v.ly.toNat + 1 := by rw [BitVec.toNat_add]; have := v.ly.isLt; simp; omega
      split at h <;> cases h
      · next he =>
        refine ⟨?_, spriteScan_listed _ _⟩
        simp only [Video.placing, enterOam_mode, enterOam_ly]
        decide
      · next hne =>
        refine ⟨?_, hs⟩
        simp only [Video.placing, checkCoincidence_mode, checkCoincidence_ly, hm]
        have : (v.ly + 1).toNat ≠ 154 := fun e => hne (BitVec.eq_of_toNat_eq e)
        omega
    · cases h

theorem advance_placing (cgb : Bool) (sh : Shades) :
    ∀ (fuel : Nat) (p : Video × List HostOutput), p.1.placing → p.1.spritesListed →
      (Video.advance cgb sh fuel p).1.placing ∧ (Video.advance cgb sh fuel p).1.spritesListed := by
  intro fuel
  induction fuel with
  | zero => intro p hp hs; exact ⟨hp, hs⟩
  | succ n ih =>
    intro p hp hs
    unfold Video.advance
    split
    · exact ⟨hp, hs⟩
    · next q hq => exact ih (q.1, p.2 ++ q.2) (transition_placing hq hp hs).1 (transition_placing hq hp hs).2

theorem placing_of_placed {v : Video} (hon : v.lcdOn = true) (h : v.placed) (n : Nat) :
    Video.placing { v with lineCycles := v.lineCycles + n } := by
  unfold Video.placed at h
  rw [if_pos hon] at h
  unfold Video.placing
  simp only
  cases hm : v.mode <;> simp only [hm] at h ⊢ <;> omega

theorem placed_of_placing {v : Video} {cgb : Bool} {sh : Shades} (hon : v.lcdOn = true) (h : v.placing)
    (hn : v.transition cgb sh = none) : v.placed := by
  unfold Video.placed
  rw [if_pos hon]
  unfold Video.placing at h
  unfold Video.transition at hn
  simp only at hn
  cases hm : v.mode <;> simp only [hm] at h hn ⊢ <;> repeat' split at hn
  all_goals first | (cases hn; done) | omega

/-- A step of the controller keeps the mode windows and the sprite list. -/
theorem videoStep_placed {v : Video} (cgb : Bool) (sh : Shades) (n : Nat) (h : v.placed) (hs : v.spritesListed) :
    (v.step cgb sh n).1.placed ∧ (v.step cgb sh n).1.spritesListed := by
  by_cases hon : v.lcdOn = true
  · have hset := videoStep_settles v cgb sh n hon
    have hd := videoStep_drawn v cgb sh n
    have hp : (v.step cgb sh n).1.placing ∧ (v.step cgb sh n).1.spritesListed := by
      unfold Video.step
      rw [if_pos hon]
      exact advance_placing cgb sh _ _ (placing_of_placed hon h n) hs
    exact ⟨placed_of_placing (hd.lcdOn.trans hon) hp.1 hset, hp.2⟩
  · unfold Video.step
    rw [if_neg hon]
    exact ⟨h, hs⟩

/-- The write of LCDC keeps them (R650). -/
theorem writeLcdc_placed {v : Video} (b : Byte) (h : v.placed) (hs : v.spritesListed) :
    (v.writeLcdc b).placed ∧ (v.writeLcdc b).spritesListed := by
  have hw : Video.lcdOn { v with lcdc := b } = b.getLsbD 7 := rfl
  unfold Video.writeLcdc
  simp only
  cases hv : v.lcdOn <;> cases hb : Video.lcdOn { v with lcdc := b }
  · simp only
    refine ⟨?_, hs⟩
    unfold Video.placed at h ⊢
    rw [hv] at h; rw [hb]; exact h
  · simp only
    refine ⟨?_, spriteScan_listed _ _⟩
    unfold Video.placed
    have : Video.lcdOn (Video.enterOam { v with lcdc := b, ly := 0, lineCycles := 0 }) = true := hb
    rw [if_pos this]
    simp
  · simp only
    refine ⟨?_, hs⟩
    unfold Video.placed
    have : Video.lcdOn { v with lcdc := b, ly := 0, lineCycles := 0, mode := .hblank } = false := hb
    rw [this]; simp
  · simp only
    refine ⟨?_, hs⟩
    unfold Video.placed at h ⊢
    rw [hv] at h; rw [hb]; exact h

/-! ## Pixels -/

/-- A tile's colour index has two bits. -/
theorem tilePixel_lt (v : Video) (bank t n r : Nat) : v.tilePixel bank t n r < 4 := by
  have bit (b : Bool) : b.toNat ≤ 1 := by cases b <;> decide
  simp only [Video.tilePixel]
  have := bit ((v.vram.read (bank * 0x2000 + 16 * t + 2 * r + 1)).getLsbD (7 - n))
  have := bit ((v.vram.read (bank * 0x2000 + 16 * t + 2 * r)).getLsbD (7 - n))
  omega

/-- A sprite's colour index has two bits, whatever its row (R655). -/
theorem spriteIndex_lt (v : Video) (cgb : Bool) (col k : Nat) : v.spriteIndex cgb col k < 4 := by
  simp only [Video.spriteIndex]
  split_ifs
  all_goals first | exact tilePixel_lt _ _ _ _ _ | exact BitVec.isLt _

/-- A map entry inside its bank is VRAM's byte (R654). -/
theorem mapByte_inside (v : Video) {b e x : Nat} (h : e < 0x2000) : v.mapByte b e x = v.vram.read (b * 0x2000 + e) := if_pos h

end Sys2Proof.Machine
end

