-- ==== Sys2Proof/Laws/Devices.lean ====
section
/-! SUPPORT. What the MMU's own operations keep: a store, the timer, the DMA engines, the collection of requests. -/

namespace Sys2Proof.Machine

/-! ## Where an address leads is inside its array -/

theorem locate_bounds {m : Mmu} {x : Word} {z : Bool} (hc : m.cart.inv z) :
    match m.locate x with
    | .vram k => k < 0x4000 ∧ (m.cgb = false → k < 0x2000)
    | .extRam k => k < m.cart.nRam * m.cart.sRam
    | .wram k => k < 0x8000 ∧ (m.cgb = false → k < 0x2000)
    | .oam k => k < 160
    | .io k => k < 128
    | .hram k => k < 127
    | .boot _ | .rom _ | .noRam | .unusable | .ie => True := by
  obtain ⟨-, -, -, -, hs, hn⟩ := hc
  have hvb : m.vbank < 2 ∧ (m.cgb = false → m.vbank = 0) := by
    unfold Mmu.vbank
    have := m.video.vbk.isLt
    cases m.cgb <;> simp; omega
  have hwb : m.wbank < 8 ∧ (m.cgb = false → m.wbank = 1) := by
    unfold Mmu.wbank
    have := m.svbk.isLt
    cases m.cgb <;> simp
    cases (m.svbk != 0#3) <;> simp
    omega
  rcases locate_cases m x with ⟨-, -, e⟩ | ⟨-, ⟨-, e⟩ | ⟨h1, h2, e⟩ | ⟨h1, h2, e⟩ | ⟨h1, h2, e⟩ | ⟨h1, h2, e⟩ | ⟨h1, h2, e⟩ |
    ⟨-, -, e⟩ | ⟨h1, h2, e⟩ | ⟨h1, h2, e⟩ | ⟨-, e⟩⟩ <;> rw [e]
  case inr.inr.inl => simp only; refine ⟨by omega, fun h => ?_⟩; have := hvb.2 h; rw [this]; omega
  case inr.inr.inr.inl =>
    unfold Cartridge.ramLoc
    generalize ho : unecho x.toNat - 0xA000 = o
    have ho' : o < 0x2000 := by omega
    cases hi : m.cart.ramIndex o with
    | none => trivial
    | some k =>
      simp only
      unfold Cartridge.ramIndex at hi
      by_cases hm : m.cart.mapper = .noBank
      · rw [hm] at hi; simp only [Option.some.injEq] at hi
        rw [hn hm]; omega
      · have hk : (if m.cart.mapper.ramEnabled = true ∧ m.cart.nRam ≠ 0 then
            some (m.cart.mapper.ramBank % m.cart.nRam * m.cart.sRam + o % m.cart.sRam) else none) = some k := by
          cases hq : m.cart.mapper <;> simp_all
        split at hk
        · next hr =>
          simp only [Option.some.injEq] at hk
          have h1 := Nat.mod_lt m.cart.mapper.ramBank (Nat.pos_of_ne_zero hr.2)
          have h2 : o % m.cart.sRam < m.cart.sRam := Nat.mod_lt _ (by rcases hs hr.2 with e | e <;> omega)
          calc k = m.cart.mapper.ramBank % m.cart.nRam * m.cart.sRam + o % m.cart.sRam := hk.symm
            _ < (m.cart.mapper.ramBank % m.cart.nRam + 1) * m.cart.sRam := by rw [Nat.add_mul]; omega
            _ ≤ m.cart.nRam * m.cart.sRam := Nat.mul_le_mul_right _ h1
        · cases hk
  case inr.inr.inr.inr.inl => simp only; exact ⟨by omega, fun _ => by omega⟩
  case inr.inr.inr.inr.inr.inl => simp only; refine ⟨by omega, fun h => ?_⟩; have := hwb.2 h; rw [this]; omega
  all_goals first | exact True.intro | (simp only; omega)

/-! ## A store -/

theorem control_inv {z : Bool} {p : Mapper} (n : Nat) (v : Byte) (h : p.inv z) : (p.control z n v).inv z := by
  cases p with
  | noBank => trivial
  | variantA en low5 ext2 mode1 =>
    simp only [Mapper.control]; unfold variantAWrite
    split
    · exact h
    · split
      · simp only [Mapper.inv]; split
        · decide
        · assumption
      · split <;> exact h
  | variantB en rom7 ram4 =>
    simp only [Mapper.control]; unfold variantBWrite
    split
    · exact h
    · split
      · simp only [Mapper.inv]; intro hz; split
        · decide
        · next hne => exact fun e => hne ⟨e, hz⟩
      · split <;> exact h
  | variantC en lo hi ram4 => simp only [Mapper.control]; unfold variantCWrite; repeat' split
                              all_goals trivial

theorem control_noBank_iff {z : Bool} {p : Mapper} {n : Nat} {v : Byte} (h : p.control z n v = .noBank) : p = .noBank := by
  by_contra hp
  exact control_noBank z p n v hp h

theorem paletteIndexAfter_bit6 (b : Byte) (h : b.getLsbD 6 = false) : (paletteIndexAfter b).getLsbD 6 = false := by
  unfold paletteIndexAfter
  split
  · simp
  · exact h

theorem and_BF_bit6 (v : Byte) : (v &&& 0xBF#8).getLsbD 6 = false := by simp

/-- The parts of `Video.inv` that concern its memories and palette indexes. -/
theorem Video.inv_writeLcdc {v : Video} (b : Byte) (h : v.inv) : (v.writeLcdc b).inv := by
  obtain ⟨h1, h2, h3, h4, h5, h6, h7, h8⟩ := h
  obtain ⟨g1, g2⟩ := writeLcdc_placed b h1 h2
  refine ⟨g1, g2, ?_⟩
  have e : (v.writeLcdc b).bcps = v.bcps ∧ (v.writeLcdc b).ocps = v.ocps ∧ (v.writeLcdc b).vram = v.vram ∧
      (v.writeLcdc b).oam = v.oam ∧ (v.writeLcdc b).bgPram = v.bgPram ∧ (v.writeLcdc b).obPram = v.obPram := by
    unfold Video.writeLcdc; simp only; split <;> exact ⟨rfl, rfl, rfl, rfl, rfl, rfl⟩
  obtain ⟨e1, e2, e3, e4, e5, e6⟩ := e
  rw [e1, e2, e3, e4, e5, e6]
  exact ⟨h3, h4, h5, h6, h7, h8⟩

theorem writeLcdc_vbk (v : Video) (b : Byte) : (v.writeLcdc b).vbk = v.vbk := by
  unfold Video.writeLcdc; simp only; split <;> rfl

theorem ioReg_dmg_of {m : Mmu} {k : Nat} {r : IoReg} (hr : ioReg m.cgb k = r) (hc : m.cgb = false) : ioRegBoth k = r := by
  rw [hc] at hr; exact hr

theorem ioRegBoth_low : ∀ k < 0x80, ioRegBoth k ≠ .key1 ∧ ioRegBoth k ≠ .vbk ∧ ioRegBoth k ≠ .hdma5 ∧
    ioRegBoth k ≠ .svbk ∧ ioRegBoth k ≠ .bcpd ∧ ioRegBoth k ≠ .ocpd := by decide

/-- A write to the I/O page keeps the MMU's invariant. -/
theorem ioWrite_inv {z : Bool} {m : Mmu} {k : Nat} (v : Byte) (hk : k < 128) (h : m.inv z) : (m.ioWrite k v).inv z := by
  obtain ⟨hc, ht, hv, ho, hd, hb, hw, hh, hi⟩ := h
  have hlow := ioRegBoth_low k hk
  obtain ⟨v1, v2, v3, v4, v5, v6, v7, v8⟩ := hv
  unfold Mmu.ioWrite
  cases hr : ioReg m.cgb k with
  | div => exact ⟨hc, ⟨Nat.zero_lt_succ _, ht.2⟩, ⟨v1, v2, v3, v4, v5, v6, v7, v8⟩, ho, hd, hb, hw, hh, hi⟩
  | lcdc =>
    refine ⟨hc, ht, Video.inv_writeLcdc v ⟨v1, v2, v3, v4, v5, v6, v7, v8⟩, ho, fun hcgb => ?_, hb, hw, hh, hi⟩
    obtain ⟨d1, d2, d3, d4, d5, d6, d7⟩ := hd hcgb
    exact ⟨d1, d2, (writeLcdc_vbk _ _).trans d3, d4, d5, by rw [show (m.video.writeLcdc v).vram = m.video.vram from (writeLcdc_vram _ _).1]; exact d6, d7⟩
  | dma => exact ⟨hc, ht, ⟨v1, v2, v3, v4, v5, v6, v7, v8⟩, ⟨Nat.zero_le _, fun _ => ⟨Nat.zero_lt_succ _, Nat.zero_lt_succ _⟩⟩, hd, hb, hw, hh, hi⟩
  | boot => exact ⟨hc, ht, ⟨v1, v2, v3, v4, v5, v6, v7, v8⟩, ho, hd, hb, hw, hh, Memory.fits_write v hk hi⟩
  | plain => exact ⟨hc, ht, ⟨v1, v2, v3, v4, v5, v6, v7, v8⟩, ho, hd, hb, hw, hh, Memory.fits_write v hk hi⟩
  | key1 => exact ⟨hc, ht, ⟨v1, v2, v3, v4, v5, v6, v7, v8⟩, ho, fun hcgb => absurd (ioReg_dmg_of hr hcgb) hlow.1, hb, hw, hh, hi⟩
  | vbk => exact ⟨hc, ht, ⟨v1, v2, v3, v4, v5, v6, v7, v8⟩, ho, fun hcgb => absurd (ioReg_dmg_of hr hcgb) hlow.2.1, hb, hw, hh, hi⟩
  | hdma5 => exact ⟨hc, ht, ⟨v1, v2, v3, v4, v5, v6, v7, v8⟩, ho, fun hcgb => absurd (ioReg_dmg_of hr hcgb) hlow.2.2.1, hb, hw, hh, hi⟩
  | svbk => exact ⟨hc, ht, ⟨v1, v2, v3, v4, v5, v6, v7, v8⟩, ho, fun hcgb => absurd (ioReg_dmg_of hr hcgb) hlow.2.2.2.1, hb, hw, hh, hi⟩
  | bcps => exact ⟨hc, ht, ⟨v1, v2, and_BF_bit6 v, v4, v5, v6, v7, v8⟩, ho, hd, hb, hw, hh, hi⟩
  | ocps => exact ⟨hc, ht, ⟨v1, v2, v3, and_BF_bit6 v, v5, v6, v7, v8⟩, ho, hd, hb, hw, hh, hi⟩
  | bcpd =>
    exact ⟨hc, ht, ⟨v1, v2, paletteIndexAfter_bit6 _ v3, v4, v5, v6, Memory.fits_write v (BitVec.isLt _) v7, v8⟩, ho, hd, hb, hw, hh, hi⟩
  | ocpd =>
    exact ⟨hc, ht, ⟨v1, v2, v3, paletteIndexAfter_bit6 _ v4, v5, v6, v7, Memory.fits_write v (BitVec.isLt _) v8⟩, ho, hd, hb, hw, hh, hi⟩
  | _ => exact ⟨hc, ht, ⟨v1, v2, v3, v4, v5, v6, v7, v8⟩, ho, hd, hb, hw, hh, hi⟩

/-- A store keeps the MMU's invariant. -/
theorem write_inv {m : Mmu} {cfg : Config} (a : Word) (v : Byte) (h : m.inv cfg.mbc3ZeroIsOne) :
    (m.write cfg a v).inv cfg.mbc3ZeroIsOne := by
  have hbd := locate_bounds (x := a) h.1
  obtain ⟨hc, ht, hv, ho, hd, hb, hw, hh, hi⟩ := h
  unfold Mmu.write
  split
  · obtain ⟨c1, c2, c3, c4, c5, c6⟩ := hc
    exact ⟨⟨control_inv _ v c1, c2, c3, c4, c5, fun e => c6 (control_noBank_iff e)⟩, ht, hv, ho, hd, hb, hw, hh, hi⟩
  · cases hl : m.locate a with
    | boot k => exact ⟨hc, ht, hv, ho, hd, hb, hw, hh, hi⟩
    | rom k => exact ⟨hc, ht, hv, ho, hd, hb, hw, hh, hi⟩
    | noRam => exact ⟨hc, ht, hv, ho, hd, hb, hw, hh, hi⟩
    | unusable => exact ⟨hc, ht, hv, ho, hd, hb, hw, hh, hi⟩
    | ie => exact ⟨hc, ht, hv, ho, hd, hb, hw, hh, hi⟩
    | vram k =>
      rw [hl] at hbd
      obtain ⟨v1, v2, v3, v4, v5, v6, v7, v8⟩ := hv
      refine ⟨hc, ht, ⟨v1, v2, v3, v4, Memory.fits_write v hbd.1 v5, v6, v7, v8⟩, ho, fun hcgb => ?_, hb, hw, hh, hi⟩
      obtain ⟨d1, d2, d3, d4, d5, d6, d7⟩ := hd hcgb
      exact ⟨d1, d2, d3, d4, d5, Memory.within_write v (hbd.2 hcgb) d6, d7⟩
    | extRam k =>
      rw [hl] at hbd
      obtain ⟨c1, c2, c3, c4, c5, c6⟩ := hc
      exact ⟨⟨c1, c2, Memory.fits_write v hbd c3, c4, c5, c6⟩, ht, hv, ho, hd, hb, hw, hh, hi⟩
    | wram k =>
      rw [hl] at hbd
      refine ⟨hc, ht, hv, ho, fun hcgb => ?_, hb, Memory.fits_write v hbd.1 hw, hh, hi⟩
      obtain ⟨d1, d2, d3, d4, d5, d6, d7⟩ := hd hcgb
      exact ⟨d1, d2, d3, d4, d5, d6, Memory.within_write v (hbd.2 hcgb) d7⟩
    | oam k =>
      rw [hl] at hbd
      obtain ⟨v1, v2, v3, v4, v5, v6, v7, v8⟩ := hv
      exact ⟨hc, ht, ⟨v1, v2, v3, v4, v5, Memory.fits_write v hbd v6, v7, v8⟩, ho, hd, hb, hw, hh, hi⟩
    | io k =>
      rw [hl] at hbd
      exact ioWrite_inv v hbd ⟨hc, ht, hv, ho, hd, hb, hw, hh, hi⟩
    | hram k =>
      rw [hl] at hbd
      exact ⟨hc, ht, hv, ho, hd, hb, hw, Memory.fits_write v hbd hh, hi⟩

/-! ## The timer -/

theorem ticks_accs (n : Nat) : ∀ t : Timer, (Timer.ticks n t).divAcc = t.divAcc ∧ (Timer.ticks n t).timaAcc = t.timaAcc ∧
    (Timer.ticks n t).tac = t.tac ∧ (Timer.ticks n t).tma = t.tma ∧ (Timer.ticks n t).div = t.div := by
  induction n with
  | zero => exact fun t => ⟨rfl, rfl, rfl, rfl, rfl⟩
  | succ n ih =>
    intro t
    have h := ih t.tick
    have e : t.tick.divAcc = t.divAcc ∧ t.tick.timaAcc = t.timaAcc ∧ t.tick.tac = t.tac ∧ t.tick.tma = t.tma ∧ t.tick.div = t.div := by
      unfold Timer.tick; split <;> exact ⟨rfl, rfl, rfl, rfl, rfl⟩
    unfold Timer.ticks
    exact ⟨h.1.trans e.1, h.2.1.trans e.2.1, h.2.2.1.trans e.2.2.1, h.2.2.2.1.trans e.2.2.2.1, h.2.2.2.2.trans e.2.2.2.2⟩

theorem timerPeriod_pos (tac : BitVec 3) : 0 < timerPeriod tac ∧ timerPeriod tac ≤ 1024 := by
  unfold timerPeriod; repeat' split
  all_goals omega

/-- A step of the timer leaves its accumulators in their ranges (R146). -/
theorem timerStep_inv {t : Timer} (c : Nat) (h : t.inv) : (t.step c).inv ∧ (t.step c).settled := by
  unfold Timer.step
  have hd : (t.stepDiv c).divAcc < 256 := Nat.mod_lt _ (by omega)
  have hp := timerPeriod_pos t.tac
  unfold Timer.stepTima
  by_cases hen : (t.stepDiv c).tac.getLsbD 2 = true
  · rw [if_pos hen]
    obtain ⟨e1, e2, e3, -, -⟩ := ticks_accs (((t.stepDiv c).timaAcc + c) / timerPeriod (t.stepDiv c).tac)
      { t.stepDiv c with timaAcc := ((t.stepDiv c).timaAcc + c) % timerPeriod (t.stepDiv c).tac }
    have hm : ((t.stepDiv c).timaAcc + c) % timerPeriod (t.stepDiv c).tac < timerPeriod (t.stepDiv c).tac := Nat.mod_lt _ hp.1
    have hp' : timerPeriod (t.stepDiv c).tac ≤ 1024 := hp.2
    refine ⟨⟨by rw [e1]; exact hd, by rw [e2]; simp only; omega⟩, fun _ => by rw [e2, e3]; exact hm⟩
  · rw [if_neg hen]
    exact ⟨⟨hd, h.2⟩, fun h' => absurd h' hen⟩

/-! ## The DMA engines -/

/-- n bytes of OAM DMA are left to do, at most. -/
theorem oamDmaLoop_inv {cfg : Config} : ∀ (n : Nat) (m : Mmu), m.video.inv → m.dmgInv → m.oamDma.cursor ≤ 160 →
    160 - m.oamDma.cursor ≤ n →
    ∃ oam d, Mmu.oamDmaLoop cfg n m = { m with video := { m.video with oam := oam }, oamDma := d } ∧ oam.fits 160 ∧
      d.cursor ≤ 160 ∧ (d.acc < 4 ∨ d.cursor = 160) ∧ d.active = m.oamDma.active := by
  intro n
  induction n with
  | zero => intro m hv hd hc hn; exact ⟨m.video.oam, m.oamDma, rfl, hv.2.2.2.2.2.1, hc, .inr (by omega), rfl⟩
  | succ n ih =>
    intro m hv hd hc hn
    unfold Mmu.oamDmaLoop
    split
    · next h =>
      have hv' : (m.oamDmaByte cfg).video.inv := by
        obtain ⟨v1, v2, v3, v4, v5, v6, v7, v8⟩ := hv
        exact ⟨v1, v2, v3, v4, v5, Memory.fits_write _ h.2 v6, v7, v8⟩
      obtain ⟨oam, d, e, h1, h2, h3, h4⟩ := ih (m.oamDmaByte cfg) hv' hd (by show m.oamDma.cursor + 1 ≤ 160; omega)
        (by show 160 - (m.oamDma.cursor + 1) ≤ n; omega)
      exact ⟨oam, d, e, h1, h2, h3, h4⟩
    · exact ⟨m.video.oam, m.oamDma, rfl, hv.2.2.2.2.2.1, hc, by omega, rfl⟩

/-- A step of OAM DMA writes OAM and its own state, and leaves it between bytes (R671). -/
theorem oamDmaStep_inv {m : Mmu} (cfg : Config) (c : Nat) (hv : m.video.inv) (hd : m.dmgInv) (ho : m.oamDma.inv) :
    ∃ oam d, m.oamDmaStep cfg c = { m with video := { m.video with oam := oam }, oamDma := d } ∧ oam.fits 160 ∧ d.inv := by
  unfold Mmu.oamDmaStep
  split
  · obtain ⟨oam, d, e, h1, h2, h3, h4⟩ := oamDmaLoop_inv (cfg := cfg) 160
      { m with oamDma := { m.oamDma with acc := m.oamDma.acc + c } } hv hd ho.1 (by simp only; omega)
    simp only [e]
    split
    · next h => exact ⟨oam, { d with active := false }, rfl, h1, h2, fun h' => by cases h'⟩
    · next h => exact ⟨oam, d, rfl, h1, h2, fun _ => ⟨by omega, by omega⟩⟩
  · exact ⟨m.video.oam, m.oamDma, rfl, hv.2.2.2.2.2.1, ho⟩

theorem hdmaTarget_lt (m : Mmu) (i : Nat) : m.hdmaTarget i < 0x4000 := by
  unfold Mmu.hdmaTarget
  have hb : m.vbank < 2 := by unfold Mmu.vbank; have := m.video.vbk.isLt; cases m.cgb <;> simp; omega
  have := Nat.mod_lt (m.hdma.dst.toNat + i) (show 0 < 0x2000 by omega)
  omega

/-- The copy of a VRAM DMA writes VRAM only. -/
theorem hdmaLoop_inv {cfg : Config} : ∀ (n i : Nat) (m : Mmu), m.video.vram.fits 0x4000 →
    ∃ vram, Mmu.hdmaLoop cfg n i m = { m with video := { m.video with vram := vram } } ∧ vram.fits 0x4000 := by
  intro n
  induction n with
  | zero => intro i m h; exact ⟨m.video.vram, rfl, h⟩
  | succ n ih =>
    intro i m h
    obtain ⟨vram, e, hf⟩ := ih (i + 1) (m.hdmaByte cfg i) (Memory.fits_write _ (hdmaTarget_lt m i) h)
    exact ⟨vram, e, hf⟩

/-- The VRAM DMA step writes VRAM and its own state, and leaves no transfer armed (R676). -/
theorem hdmaStep_inv {m : Mmu} (cfg : Config) (h : m.video.vram.fits 0x4000) :
    ∃ vram d, m.hdmaStep cfg = { m with video := { m.video with vram := vram }, hdma := d } ∧ vram.fits 0x4000 ∧
      d.armed = false ∧ (m.hdma.armed = false → vram = m.video.vram) := by
  unfold Mmu.hdmaStep
  split
  · next ha =>
    obtain ⟨vram, e, hf⟩ := hdmaLoop_inv (cfg := cfg) m.hdma.len 0 m h
    simp only [e]
    exact ⟨vram, { m.hdma with len := 0, armed := false }, rfl, hf, rfl, fun h' => absurd h' (by rw [ha]; decide)⟩
  · next ha => exact ⟨m.video.vram, m.hdma, rfl, h, by simpa using ha, fun _ => rfl⟩

end Sys2Proof.Machine
end

