-- ==== Sys2Proof/Laws/Run.lean ====
section
/-! SUPPORT. Everything one unit of `step_cycles` can do, said once: a sequence of moves of the CPU. An invariant of the moves
is an invariant of every instruction, of an interrupt dispatch and of the debugger's hook. -/

namespace Sys2Proof.Machine

/-! ## Moves -/

/-- The fatal conditions a running machine can raise (R600); the others are raised at load. -/
def Fault.running : Fault → Prop
  | .f1UndefinedOpcode _ _ | .f5HblankDma _ | .f6StopOnDmg _ => True
  | .f2UndefinedCbOpcode | .f3ControllerType _ | .f4BankCount _ _ _ | .f7SizeCode _ | .f8ImageLength _ => False

/-- One thing the CPU does; w says whether that may be a switch of the speed. A write of the register file keeps F or leaves its
low nibble zero (R102). -/
inductive Move (w : Bool) : State → State → Prop where
  | regs (s : State) (r : Regs) (h : r.f = s.regs.f ∨ r.f &&& 0x0F#8 = 0) : Move w s { s with regs := r }
  | sp (s : State) (v : Word) : Move w s { s with sp := v }
  | pc (s : State) (v : Word) : Move w s { s with pc := v }
  | ime (s : State) (v : Bool) : Move w s { s with ime := v }
  | imePending (s : State) (v : Bool) : Move w s { s with imePending := v }
  | halted (s : State) (v : Bool) : Move w s { s with halted := v }
  | cost (s : State) (v : Nat) : Move w s { s with cost := v }
  | debugger (s : State) (v : List (List DebugAction)) : Move w s { s with debugger := v }
  | store (s : State) (a : Word) (v : Byte) (h : s.mmu.hblankDmaRequest a v = false) : Move w s (s.store a v)
  | clearRequest (s : State) (i : Source) : Move w s { s with mmu := s.mmu.clearRequest i }
  | switchSpeed (s : State) (hw : w = true) (h : s.mmu.cgb = true) : Move w s { s with mmu := s.mmu.switchSpeed }
  | raise (s : State) (f : Fault) (h : f.running) : Move w s (s.raise f)

/-- Moves in sequence. -/
abbrev Moves (w : Bool) : State → State → Prop := Relation.ReflTransGen (Move w)

variable {w : Bool}

theorem Moves.one {s t : State} (h : Move w s t) : Moves w s t := .single h

theorem Moves.andThen {s t u : State} (h : Moves w s t) (h' : Move w t u) : Moves w s u := h.tail h'

/-- What every move keeps, moves keep. -/
theorem Moves.keeps {P : State → Prop} (hm : ∀ s t, Move w s t → P s → P t) {s t : State} (h : Moves w s t) (hs : P s) :
    P t := by
  induction h with
  | refl => exact hs
  | tail _ h ih => exact hm _ _ h ih

/-! ## The operations -/

theorem tick_moves (s : State) (k : Nat) : Moves w s (s.tick k) := .one (.cost s k)
theorem setReg8_moves (s : State) (x : Reg8) (v : Byte) : Moves w s (s.setReg8 x v) := .one (.regs s _ (.inl (by simp)))
theorem setF_moves (s : State) (v : Byte) : Moves w s (s.setF v) := .one (.regs s _ (.inr (by simp)))
theorem setSP_moves (s : State) (v : Word) : Moves w s (s.setSP v) := .one (.sp s v)
theorem jump_moves (s : State) (v : Word) : Moves w s (s.jump v) := .one (.pc s v)
theorem setFlags_moves (s : State) (z n h c : Bool) : Moves w s (s.setFlags z n h c) :=
  .one (.regs s _ (.inr (packF_low z n h c)))
theorem setHL_moves (s : State) (v : Word) : Moves w s (s.setHL v) := .one (.regs s _ (.inl rfl))
theorem putF_moves (s : State) (f : Byte) (h : f &&& 0x0F#8 = 0) : Moves w s (s.putF f) := .one (.regs s _ (.inr h))
theorem putAF_moves (s : State) (r : Byte × Byte) (h : r.2 &&& 0x0F#8 = 0) : Moves w s (s.putAF r) :=
  .one (.regs s _ (.inr h))

theorem setPair_moves (s : State) (p : Pair) (v : Word) : Moves w s (s.setPair p v) := by
  cases p
  · exact .one (.regs s _ (.inl rfl))
  · exact .one (.regs s _ (.inl rfl))
  · exact .one (.regs s _ (.inl rfl))
  · exact .one (.sp s v)

theorem setStackPair_moves (s : State) (p : StackPair) (v : Word) : Moves w s (s.setStackPair p v) := by
  cases p
  · exact .one (.regs s _ (.inl rfl))
  · exact .one (.regs s _ (.inl rfl))
  · exact .one (.regs s _ (.inl rfl))
  · exact .one (.regs s _ (.inr (and_F0_low _)))

/-- A store that may be fatal, and what follows it. -/
theorem memWrite_moves (s : State) (a : Word) (v : Byte) (k : State → State) (hk : ∀ t, Moves w t (k t)) :
    Moves w s (s.memWrite a v k) := by
  unfold State.memWrite
  split
  · exact .one (.raise s _ trivial)
  · next h => exact (Moves.one (.store s a v (by simpa using h))).trans (hk _)

theorem push16_moves (s : State) (v : Word) (k : State → State) (hk : ∀ t, Moves w t (k t)) : Moves w s (s.push16 v k) :=
  (setSP_moves s _).trans
    (memWrite_moves _ _ _ _ fun t => (setSP_moves t _).trans (memWrite_moves _ _ _ _ hk))

theorem writePlace_moves (s : State) (p : Place8) (v : Byte) (k : State → State) (hk : ∀ t, Moves w t (k t)) :
    Moves w s (s.writePlace p v k) := by
  cases p with
  | reg r => exact (setReg8_moves s r v).trans (hk _)
  | memHL => exact memWrite_moves s _ v k hk

theorem popPC_moves (s : State) : Moves w s s.popPC := (setSP_moves s _).trans (jump_moves _ _)

/-! ## The shared meanings -/

theorem nop_moves (s : State) : Moves w s (nop s) := tick_moves s 4
theorem ldRegReg_moves (x y : Reg8) (s : State) : Moves w s (ldRegReg x y s) := (setReg8_moves s _ _).trans (tick_moves _ _)
theorem ldRegImm_moves (x : Reg8) (n : Byte) (s : State) : Moves w s (ldRegImm x n s) :=
  (setReg8_moves s _ _).trans (tick_moves _ _)
theorem ldRegMem_moves (x : Reg8) (s : State) : Moves w s (ldRegMem x s) := (setReg8_moves s _ _).trans (tick_moves _ _)
theorem ldMemReg_moves (x : Reg8) (s : State) : Moves w s (ldMemReg x s) := memWrite_moves s _ _ _ fun t => tick_moves t _
theorem ldMemImm_moves (n : Byte) (s : State) : Moves w s (ldMemImm n s) := memWrite_moves s _ _ _ fun t => tick_moves t _
theorem ldAFrom_moves (a : Word) (c : Nat) (s : State) : Moves w s (ldAFrom a c s) :=
  (setReg8_moves s _ _).trans (tick_moves _ _)
theorem stATo_moves (a : Word) (c : Nat) (s : State) : Moves w s (stATo a c s) :=
  memWrite_moves s _ _ _ fun t => tick_moves t _
theorem stAThenStep_moves (d : Word) (s : State) : Moves w s (stAThenStep d s) :=
  memWrite_moves s _ _ _ fun t => (setHL_moves t _).trans (tick_moves _ _)
theorem ldAThenStep_moves (d : Word) (s : State) : Moves w s (ldAThenStep d s) :=
  ((setReg8_moves s _ _).trans (setHL_moves _ _)).trans (tick_moves _ _)
theorem ldPairImm_moves (p : Pair) (nn : Word) (s : State) : Moves w s (ldPairImm p nn s) :=
  (setPair_moves s p nn).trans (tick_moves _ _)
theorem stSP_moves (nn : Word) (s : State) : Moves w s (stSP nn s) :=
  memWrite_moves s _ _ _ fun t => memWrite_moves t _ _ _ fun u => tick_moves u _
theorem ldSPHL_moves (s : State) : Moves w s (ldSPHL s) := (setSP_moves s _).trans (tick_moves _ _)
theorem push_moves (p : StackPair) (s : State) : Moves w s (push p s) := push16_moves s _ _ fun t => tick_moves t _
theorem pop_moves (p : StackPair) (s : State) : Moves w s (pop p s) :=
  ((setSP_moves s _).trans (setStackPair_moves _ p _)).trans (tick_moves _ _)

theorem add8_low (a b : Byte) (c : Bool) : (add8 a b c).2 &&& 0x0F#8 = 0 := packF_low _ _ _ _
theorem sub8_low (a b : Byte) (c : Bool) : (sub8 a b c).2 &&& 0x0F#8 = 0 := packF_low _ _ _ _

theorem addA_moves (x : Src8) (s : State) : Moves w s (addA x s) := (putAF_moves s _ (add8_low _ _ _)).trans (tick_moves _ _)
theorem adcA_moves (x : Src8) (s : State) : Moves w s (adcA x s) := (putAF_moves s _ (add8_low _ _ _)).trans (tick_moves _ _)
theorem subA_moves (x : Src8) (s : State) : Moves w s (subA x s) := (putAF_moves s _ (sub8_low _ _ _)).trans (tick_moves _ _)
theorem sbcA_moves (x : Src8) (s : State) : Moves w s (sbcA x s) := (putAF_moves s _ (sub8_low _ _ _)).trans (tick_moves _ _)
theorem andA_moves (x : Src8) (s : State) : Moves w s (andA x s) :=
  (putAF_moves s _ (packF_low _ _ _ _)).trans (tick_moves _ _)
theorem xorA_moves (x : Src8) (s : State) : Moves w s (xorA x s) :=
  (putAF_moves s _ (packF_low _ _ _ _)).trans (tick_moves _ _)
theorem orA_moves (x : Src8) (s : State) : Moves w s (orA x s) :=
  (putAF_moves s _ (packF_low _ _ _ _)).trans (tick_moves _ _)
theorem cpA_moves (x : Src8) (s : State) : Moves w s (cpA x s) := (putF_moves s _ (sub8_low _ _ _)).trans (tick_moves _ _)
theorem incPlace_moves (p : Place8) (s : State) : Moves w s (incPlace p s) :=
  (putF_moves s _ (packF_low _ _ _ _)).trans (writePlace_moves _ p _ _ fun t => tick_moves t _)
theorem decPlace_moves (p : Place8) (s : State) : Moves w s (decPlace p s) :=
  (putF_moves s _ (packF_low _ _ _ _)).trans (writePlace_moves _ p _ _ fun t => tick_moves t _)
theorem daaA_moves (s : State) : Moves w s (daaA s) := (putAF_moves s _ (packF_low _ _ _ _)).trans (tick_moves _ _)
theorem cplA_moves (s : State) : Moves w s (cplA s) := (putAF_moves s _ (packF_low _ _ _ _)).trans (tick_moves _ _)
theorem setCarry_moves (s : State) : Moves w s (setCarry s) := (setFlags_moves s _ _ _ _).trans (tick_moves _ _)
theorem flipCarry_moves (s : State) : Moves w s (flipCarry s) := (setFlags_moves s _ _ _ _).trans (tick_moves _ _)

theorem addHL_moves (p : Pair) (s : State) : Moves w s (addHL p s) :=
  ((Moves.one (.regs s _ (.inr (packF_low _ _ _ _)))).trans (setHL_moves _ _)).trans (tick_moves _ _)
theorem incPair_moves (p : Pair) (s : State) : Moves w s (incPair p s) := (setPair_moves s p _).trans (tick_moves _ _)
theorem decPair_moves (p : Pair) (s : State) : Moves w s (decPair p s) := (setPair_moves s p _).trans (tick_moves _ _)
theorem spE8To_moves (p : Pair) (c : Nat) (e : Byte) (s : State) : Moves w s (spE8To p c e s) :=
  ((Moves.one (.regs s _ (.inr (packF_low _ _ _ _)))).trans (setPair_moves _ p _)).trans (tick_moves _ _)

theorem rotateA_moves (f : Byte → Byte × Bool) (s : State) : Moves w s (rotateA f s) :=
  ((setReg8_moves s _ _).trans (setFlags_moves _ _ _ _ _)).trans (tick_moves _ _)
theorem shiftPlace_moves (f : Byte → Byte × Bool) (p : Place8) (s : State) : Moves w s (shiftPlace f p s) :=
  (setFlags_moves s _ _ _ _).trans (writePlace_moves _ p _ _ fun t => tick_moves t _)
theorem rlPlace_moves (p : Place8) (s : State) : Moves w s (rlPlace p s) := shiftPlace_moves _ p s
theorem rrPlace_moves (p : Place8) (s : State) : Moves w s (rrPlace p s) := shiftPlace_moves _ p s
theorem bitPlace_moves (b : Nat) (p : Place8) (s : State) : Moves w s (bitPlace b p s) :=
  (setFlags_moves s _ _ _ _).trans (tick_moves _ _)
theorem resPlace_moves (b : Nat) (p : Place8) (s : State) : Moves w s (resPlace b p s) :=
  writePlace_moves s p _ _ fun t => tick_moves t _
theorem setPlace_moves (b : Nat) (p : Place8) (s : State) : Moves w s (setPlace b p s) :=
  writePlace_moves s p _ _ fun t => tick_moves t _
theorem cbEffect_moves (op : Byte) (s : State) : Moves w s (cbEffect op s) := by
  unfold cbEffect cbShift
  simp only
  repeat' split
  all_goals first
    | exact shiftPlace_moves _ _ _ | exact rlPlace_moves _ _ | exact rrPlace_moves _ _
    | exact bitPlace_moves _ _ _ | exact resPlace_moves _ _ _ | exact setPlace_moves _ _ _
theorem cbPrefixed_moves (s : State) : Moves w s (cbPrefixed s) := (Moves.one (.pc s _)).trans (cbEffect_moves _ _)

theorem jp_moves (nn : Word) (s : State) : Moves w s (jp nn s) := (jump_moves s _).trans (tick_moves _ _)
theorem jpIf_moves (cc : Cond) (nn : Word) (s : State) : Moves w s (jpIf cc nn s) := by
  unfold jpIf; cases s.cond cc
  · exact tick_moves s _
  · exact jp_moves nn s
theorem jpHL_moves (s : State) : Moves w s (jpHL s) := (jump_moves s _).trans (tick_moves _ _)
theorem jr_moves (e : Byte) (s : State) : Moves w s (jr e s) := (jump_moves s _).trans (tick_moves _ _)
theorem jrIf_moves (cc : Cond) (e : Byte) (s : State) : Moves w s (jrIf cc e s) := by
  unfold jrIf; cases s.cond cc
  · exact tick_moves s _
  · exact jr_moves e s
theorem call_moves (nn : Word) (s : State) : Moves w s (call nn s) :=
  push16_moves s _ _ fun t => (jump_moves t _).trans (tick_moves _ _)
theorem callIf_moves (cc : Cond) (nn : Word) (s : State) : Moves w s (callIf cc nn s) := by
  unfold callIf; cases s.cond cc
  · exact tick_moves s _
  · exact call_moves nn s
theorem ret_moves (s : State) : Moves w s (ret s) := (popPC_moves s).trans (tick_moves _ _)
theorem retIf_moves (cc : Cond) (s : State) : Moves w s (retIf cc s) := by
  unfold retIf; cases s.cond cc
  · exact tick_moves s _
  · exact (popPC_moves s).trans (tick_moves _ _)
theorem reti_moves (s : State) : Moves w s (reti s) :=
  ((popPC_moves s).trans (Moves.one (.ime _ true))).trans (tick_moves _ _)
theorem rst_moves (t : Word) (s : State) : Moves w s (rst t s) :=
  push16_moves s _ _ fun u => (jump_moves u _).trans (tick_moves _ _)

theorem haltCpu_moves (s : State) : Moves w s (haltCpu s) := (Moves.one (.halted s true)).trans (tick_moves _ _)
theorem skipStopByte_moves (s : State) : Moves w s s.skipStopByte := by
  unfold State.skipStopByte; split
  · exact .refl
  · exact .one (.pc s _)
theorem skipStopByte_mmu (s : State) : s.skipStopByte.mmu = s.mmu := by unfold State.skipStopByte; split <;> rfl
theorem stopCpu_moves (s : State) : Moves true s (stopCpu s) := by
  unfold stopCpu
  split
  · next h =>
    cases s.mmu.key1Armed
    · exact (skipStopByte_moves s).trans (tick_moves _ _)
    · have e : s.mmu.switchSpeed = s.skipStopByte.mmu.switchSpeed := by rw [skipStopByte_mmu]
      show Moves true s (State.tick { s.skipStopByte with mmu := s.mmu.switchSpeed } 4)
      rw [e]
      exact ((skipStopByte_moves s).andThen (.switchSpeed _ rfl (by rw [skipStopByte_mmu]; exact h))).trans (tick_moves _ _)
  · exact (skipStopByte_moves s).andThen (.raise _ _ trivial)
theorem disableInterrupts_moves (s : State) : Moves w s (disableInterrupts s) :=
  ((Moves.one (.ime s false)).andThen (.imePending _ false)).trans (tick_moves _ _)
theorem enableInterrupts_moves (s : State) : Moves w s (enableInterrupts s) :=
  (Moves.one (.imePending s true)).trans (tick_moves _ _)
theorem illegal_moves (op : Byte) (s : State) : Moves w s (illegal op s) := .one (.raise s _ trivial)

/-! ## Every instruction -/

/-- One lemma of the operations for each instruction. -/
theorem exec_moves_by (s : State) : (i : Instr) → ∃ t, exec i s = .next t ∧ Moves (decide (i = .stop)) s t
  | .nop => ⟨_, rfl, nop_moves s⟩
  | .ld_BC_n16 nn => ⟨_, rfl, ldPairImm_moves .bc nn s⟩
  | .ld_mBC_A => ⟨_, rfl, stATo_moves s.bc 8 s⟩
  | .inc_BC => ⟨_, rfl, incPair_moves .bc s⟩
  | .inc_B => ⟨_, rfl, incPlace_moves (.reg .b) s⟩
  | .dec_B => ⟨_, rfl, decPlace_moves (.reg .b) s⟩
  | .ld_B_n8 n => ⟨_, rfl, ldRegImm_moves .b n s⟩
  | .rlca => ⟨_, rfl, rotateA_moves rlc8 s⟩
  | .ld_mN16_SP nn => ⟨_, rfl, stSP_moves nn s⟩
  | .add_HL_BC => ⟨_, rfl, addHL_moves .bc s⟩
  | .ld_A_mBC => ⟨_, rfl, ldAFrom_moves s.bc 8 s⟩
  | .dec_BC => ⟨_, rfl, decPair_moves .bc s⟩
  | .inc_C => ⟨_, rfl, incPlace_moves (.reg .c) s⟩
  | .dec_C => ⟨_, rfl, decPlace_moves (.reg .c) s⟩
  | .ld_C_n8 n => ⟨_, rfl, ldRegImm_moves .c n s⟩
  | .rrca => ⟨_, rfl, rotateA_moves rrc8 s⟩
  | .stop => ⟨_, rfl, stopCpu_moves s⟩
  | .ld_DE_n16 nn => ⟨_, rfl, ldPairImm_moves .de nn s⟩
  | .ld_mDE_A => ⟨_, rfl, stATo_moves s.de 8 s⟩
  | .inc_DE => ⟨_, rfl, incPair_moves .de s⟩
  | .inc_D => ⟨_, rfl, incPlace_moves (.reg .d) s⟩
  | .dec_D => ⟨_, rfl, decPlace_moves (.reg .d) s⟩
  | .ld_D_n8 n => ⟨_, rfl, ldRegImm_moves .d n s⟩
  | .rla => ⟨_, rfl, rotateA_moves (rl8 · s.flagC) s⟩
  | .jr_e8 e => ⟨_, rfl, jr_moves e s⟩
  | .add_HL_DE => ⟨_, rfl, addHL_moves .de s⟩
  | .ld_A_mDE => ⟨_, rfl, ldAFrom_moves s.de 8 s⟩
  | .dec_DE => ⟨_, rfl, decPair_moves .de s⟩
  | .inc_E => ⟨_, rfl, incPlace_moves (.reg .e) s⟩
  | .dec_E => ⟨_, rfl, decPlace_moves (.reg .e) s⟩
  | .ld_E_n8 n => ⟨_, rfl, ldRegImm_moves .e n s⟩
  | .rra => ⟨_, rfl, rotateA_moves (rr8 · s.flagC) s⟩
  | .jr_NZ_e8 e => ⟨_, rfl, jrIf_moves .nz e s⟩
  | .ld_HL_n16 nn => ⟨_, rfl, ldPairImm_moves .hl nn s⟩
  | .ld_mHLinc_A => ⟨_, rfl, stAThenStep_moves 1 s⟩
  | .inc_HL => ⟨_, rfl, incPair_moves .hl s⟩
  | .inc_H => ⟨_, rfl, incPlace_moves (.reg .h) s⟩
  | .dec_H => ⟨_, rfl, decPlace_moves (.reg .h) s⟩
  | .ld_H_n8 n => ⟨_, rfl, ldRegImm_moves .h n s⟩
  | .daa => ⟨_, rfl, daaA_moves s⟩
  | .jr_Z_e8 e => ⟨_, rfl, jrIf_moves .z e s⟩
  | .add_HL_HL => ⟨_, rfl, addHL_moves .hl s⟩
  | .ld_A_mHLinc => ⟨_, rfl, ldAThenStep_moves 1 s⟩
  | .dec_HL => ⟨_, rfl, decPair_moves .hl s⟩
  | .inc_L => ⟨_, rfl, incPlace_moves (.reg .l) s⟩
  | .dec_L => ⟨_, rfl, decPlace_moves (.reg .l) s⟩
  | .ld_L_n8 n => ⟨_, rfl, ldRegImm_moves .l n s⟩
  | .cpl => ⟨_, rfl, cplA_moves s⟩
  | .jr_NC_e8 e => ⟨_, rfl, jrIf_moves .nc e s⟩
  | .ld_SP_n16 nn => ⟨_, rfl, ldPairImm_moves .sp nn s⟩
  | .ld_mHLdec_A => ⟨_, rfl, stAThenStep_moves (-1) s⟩
  | .inc_SP => ⟨_, rfl, incPair_moves .sp s⟩
  | .inc_mHL => ⟨_, rfl, incPlace_moves .memHL s⟩
  | .dec_mHL => ⟨_, rfl, decPlace_moves .memHL s⟩
  | .ld_mHL_n8 n => ⟨_, rfl, ldMemImm_moves n s⟩
  | .scf => ⟨_, rfl, setCarry_moves s⟩
  | .jr_C_e8 e => ⟨_, rfl, jrIf_moves .c e s⟩
  | .add_HL_SP => ⟨_, rfl, addHL_moves .sp s⟩
  | .ld_A_mHLdec => ⟨_, rfl, ldAThenStep_moves (-1) s⟩
  | .dec_SP => ⟨_, rfl, decPair_moves .sp s⟩
  | .inc_A => ⟨_, rfl, incPlace_moves (.reg .a) s⟩
  | .dec_A => ⟨_, rfl, decPlace_moves (.reg .a) s⟩
  | .ld_A_n8 n => ⟨_, rfl, ldRegImm_moves .a n s⟩
  | .ccf => ⟨_, rfl, flipCarry_moves s⟩
  | .ld_B_B => ⟨_, rfl, ldRegReg_moves .b .b s⟩
  | .ld_B_C => ⟨_, rfl, ldRegReg_moves .b .c s⟩
  | .ld_B_D => ⟨_, rfl, ldRegReg_moves .b .d s⟩
  | .ld_B_E => ⟨_, rfl, ldRegReg_moves .b .e s⟩
  | .ld_B_H => ⟨_, rfl, ldRegReg_moves .b .h s⟩
  | .ld_B_L => ⟨_, rfl, ldRegReg_moves .b .l s⟩
  | .ld_B_mHL => ⟨_, rfl, ldRegMem_moves .b s⟩
  | .ld_B_A => ⟨_, rfl, ldRegReg_moves .b .a s⟩
  | .ld_C_B => ⟨_, rfl, ldRegReg_moves .c .b s⟩
  | .ld_C_C => ⟨_, rfl, ldRegReg_moves .c .c s⟩
  | .ld_C_D => ⟨_, rfl, ldRegReg_moves .c .d s⟩
  | .ld_C_E => ⟨_, rfl, ldRegReg_moves .c .e s⟩
  | .ld_C_H => ⟨_, rfl, ldRegReg_moves .c .h s⟩
  | .ld_C_L => ⟨_, rfl, ldRegReg_moves .c .l s⟩
  | .ld_C_mHL => ⟨_, rfl, ldRegMem_moves .c s⟩
  | .ld_C_A => ⟨_, rfl, ldRegReg_moves .c .a s⟩
  | .ld_D_B => ⟨_, rfl, ldRegReg_moves .d .b s⟩
  | .ld_D_C => ⟨_, rfl, ldRegReg_moves .d .c s⟩
  | .ld_D_D => ⟨_, rfl, ldRegReg_moves .d .d s⟩
  | .ld_D_E => ⟨_, rfl, ldRegReg_moves .d .e s⟩
  | .ld_D_H => ⟨_, rfl, ldRegReg_moves .d .h s⟩
  | .ld_D_L => ⟨_, rfl, ldRegReg_moves .d .l s⟩
  | .ld_D_mHL => ⟨_, rfl, ldRegMem_moves .d s⟩
  | .ld_D_A => ⟨_, rfl, ldRegReg_moves .d .a s⟩
  | .ld_E_B => ⟨_, rfl, ldRegReg_moves .e .b s⟩
  | .ld_E_C => ⟨_, rfl, ldRegReg_moves .e .c s⟩
  | .ld_E_D => ⟨_, rfl, ldRegReg_moves .e .d s⟩
  | .ld_E_E => ⟨_, rfl, ldRegReg_moves .e .e s⟩
  | .ld_E_H => ⟨_, rfl, ldRegReg_moves .e .h s⟩
  | .ld_E_L => ⟨_, rfl, ldRegReg_moves .e .l s⟩
  | .ld_E_mHL => ⟨_, rfl, ldRegMem_moves .e s⟩
  | .ld_E_A => ⟨_, rfl, ldRegReg_moves .e .a s⟩
  | .ld_H_B => ⟨_, rfl, ldRegReg_moves .h .b s⟩
  | .ld_H_C => ⟨_, rfl, ldRegReg_moves .h .c s⟩
  | .ld_H_D => ⟨_, rfl, ldRegReg_moves .h .d s⟩
  | .ld_H_E => ⟨_, rfl, ldRegReg_moves .h .e s⟩
  | .ld_H_H => ⟨_, rfl, ldRegReg_moves .h .h s⟩
  | .ld_H_L => ⟨_, rfl, ldRegReg_moves .h .l s⟩
  | .ld_H_mHL => ⟨_, rfl, ldRegMem_moves .h s⟩
  | .ld_H_A => ⟨_, rfl, ldRegReg_moves .h .a s⟩
  | .ld_L_B => ⟨_, rfl, ldRegReg_moves .l .b s⟩
  | .ld_L_C => ⟨_, rfl, ldRegReg_moves .l .c s⟩
  | .ld_L_D => ⟨_, rfl, ldRegReg_moves .l .d s⟩
  | .ld_L_E => ⟨_, rfl, ldRegReg_moves .l .e s⟩
  | .ld_L_H => ⟨_, rfl, ldRegReg_moves .l .h s⟩
  | .ld_L_L => ⟨_, rfl, ldRegReg_moves .l .l s⟩
  | .ld_L_mHL => ⟨_, rfl, ldRegMem_moves .l s⟩
  | .ld_L_A => ⟨_, rfl, ldRegReg_moves .l .a s⟩
  | .ld_mHL_B => ⟨_, rfl, ldMemReg_moves .b s⟩
  | .ld_mHL_C => ⟨_, rfl, ldMemReg_moves .c s⟩
  | .ld_mHL_D => ⟨_, rfl, ldMemReg_moves .d s⟩
  | .ld_mHL_E => ⟨_, rfl, ldMemReg_moves .e s⟩
  | .ld_mHL_H => ⟨_, rfl, ldMemReg_moves .h s⟩
  | .ld_mHL_L => ⟨_, rfl, ldMemReg_moves .l s⟩
  | .halt => ⟨_, rfl, haltCpu_moves s⟩
  | .ld_mHL_A => ⟨_, rfl, ldMemReg_moves .a s⟩
  | .ld_A_B => ⟨_, rfl, ldRegReg_moves .a .b s⟩
  | .ld_A_C => ⟨_, rfl, ldRegReg_moves .a .c s⟩
  | .ld_A_D => ⟨_, rfl, ldRegReg_moves .a .d s⟩
  | .ld_A_E => ⟨_, rfl, ldRegReg_moves .a .e s⟩
  | .ld_A_H => ⟨_, rfl, ldRegReg_moves .a .h s⟩
  | .ld_A_L => ⟨_, rfl, ldRegReg_moves .a .l s⟩
  | .ld_A_mHL => ⟨_, rfl, ldRegMem_moves .a s⟩
  | .ld_A_A => ⟨_, rfl, ldRegReg_moves .a .a s⟩
  | .add_A_B => ⟨_, rfl, addA_moves (.reg .b) s⟩
  | .add_A_C => ⟨_, rfl, addA_moves (.reg .c) s⟩
  | .add_A_D => ⟨_, rfl, addA_moves (.reg .d) s⟩
  | .add_A_E => ⟨_, rfl, addA_moves (.reg .e) s⟩
  | .add_A_H => ⟨_, rfl, addA_moves (.reg .h) s⟩
  | .add_A_L => ⟨_, rfl, addA_moves (.reg .l) s⟩
  | .add_A_mHL => ⟨_, rfl, addA_moves .memHL s⟩
  | .add_A_A => ⟨_, rfl, addA_moves (.reg .a) s⟩
  | .adc_A_B => ⟨_, rfl, adcA_moves (.reg .b) s⟩
  | .adc_A_C => ⟨_, rfl, adcA_moves (.reg .c) s⟩
  | .adc_A_D => ⟨_, rfl, adcA_moves (.reg .d) s⟩
  | .adc_A_E => ⟨_, rfl, adcA_moves (.reg .e) s⟩
  | .adc_A_H => ⟨_, rfl, adcA_moves (.reg .h) s⟩
  | .adc_A_L => ⟨_, rfl, adcA_moves (.reg .l) s⟩
  | .adc_A_mHL => ⟨_, rfl, adcA_moves .memHL s⟩
  | .adc_A_A => ⟨_, rfl, adcA_moves (.reg .a) s⟩
  | .sub_A_B => ⟨_, rfl, subA_moves (.reg .b) s⟩
  | .sub_A_C => ⟨_, rfl, subA_moves (.reg .c) s⟩
  | .sub_A_D => ⟨_, rfl, subA_moves (.reg .d) s⟩
  | .sub_A_E => ⟨_, rfl, subA_moves (.reg .e) s⟩
  | .sub_A_H => ⟨_, rfl, subA_moves (.reg .h) s⟩
  | .sub_A_L => ⟨_, rfl, subA_moves (.reg .l) s⟩
  | .sub_A_mHL => ⟨_, rfl, subA_moves .memHL s⟩
  | .sub_A_A => ⟨_, rfl, subA_moves (.reg .a) s⟩
  | .sbc_A_B => ⟨_, rfl, sbcA_moves (.reg .b) s⟩
  | .sbc_A_C => ⟨_, rfl, sbcA_moves (.reg .c) s⟩
  | .sbc_A_D => ⟨_, rfl, sbcA_moves (.reg .d) s⟩
  | .sbc_A_E => ⟨_, rfl, sbcA_moves (.reg .e) s⟩
  | .sbc_A_H => ⟨_, rfl, sbcA_moves (.reg .h) s⟩
  | .sbc_A_L => ⟨_, rfl, sbcA_moves (.reg .l) s⟩
  | .sbc_A_mHL => ⟨_, rfl, sbcA_moves .memHL s⟩
  | .sbc_A_A => ⟨_, rfl, sbcA_moves (.reg .a) s⟩
  | .and_A_B => ⟨_, rfl, andA_moves (.reg .b) s⟩
  | .and_A_C => ⟨_, rfl, andA_moves (.reg .c) s⟩
  | .and_A_D => ⟨_, rfl, andA_moves (.reg .d) s⟩
  | .and_A_E => ⟨_, rfl, andA_moves (.reg .e) s⟩
  | .and_A_H => ⟨_, rfl, andA_moves (.reg .h) s⟩
  | .and_A_L => ⟨_, rfl, andA_moves (.reg .l) s⟩
  | .and_A_mHL => ⟨_, rfl, andA_moves .memHL s⟩
  | .and_A_A => ⟨_, rfl, andA_moves (.reg .a) s⟩
  | .xor_A_B => ⟨_, rfl, xorA_moves (.reg .b) s⟩
  | .xor_A_C => ⟨_, rfl, xorA_moves (.reg .c) s⟩
  | .xor_A_D => ⟨_, rfl, xorA_moves (.reg .d) s⟩
  | .xor_A_E => ⟨_, rfl, xorA_moves (.reg .e) s⟩
  | .xor_A_H => ⟨_, rfl, xorA_moves (.reg .h) s⟩
  | .xor_A_L => ⟨_, rfl, xorA_moves (.reg .l) s⟩
  | .xor_A_mHL => ⟨_, rfl, xorA_moves .memHL s⟩
  | .xor_A_A => ⟨_, rfl, xorA_moves (.reg .a) s⟩
  | .or_A_B => ⟨_, rfl, orA_moves (.reg .b) s⟩
  | .or_A_C => ⟨_, rfl, orA_moves (.reg .c) s⟩
  | .or_A_D => ⟨_, rfl, orA_moves (.reg .d) s⟩
  | .or_A_E => ⟨_, rfl, orA_moves (.reg .e) s⟩
  | .or_A_H => ⟨_, rfl, orA_moves (.reg .h) s⟩
  | .or_A_L => ⟨_, rfl, orA_moves (.reg .l) s⟩
  | .or_A_mHL => ⟨_, rfl, orA_moves .memHL s⟩
  | .or_A_A => ⟨_, rfl, orA_moves (.reg .a) s⟩
  | .cp_A_B => ⟨_, rfl, cpA_moves (.reg .b) s⟩
  | .cp_A_C => ⟨_, rfl, cpA_moves (.reg .c) s⟩
  | .cp_A_D => ⟨_, rfl, cpA_moves (.reg .d) s⟩
  | .cp_A_E => ⟨_, rfl, cpA_moves (.reg .e) s⟩
  | .cp_A_H => ⟨_, rfl, cpA_moves (.reg .h) s⟩
  | .cp_A_L => ⟨_, rfl, cpA_moves (.reg .l) s⟩
  | .cp_A_mHL => ⟨_, rfl, cpA_moves .memHL s⟩
  | .cp_A_A => ⟨_, rfl, cpA_moves (.reg .a) s⟩
  | .ret_NZ => ⟨_, rfl, retIf_moves .nz s⟩
  | .pop_BC => ⟨_, rfl, pop_moves .bc s⟩
  | .jp_NZ_n16 nn => ⟨_, rfl, jpIf_moves .nz nn s⟩
  | .jp_n16 nn => ⟨_, rfl, jp_moves nn s⟩
  | .call_NZ_n16 nn => ⟨_, rfl, callIf_moves .nz nn s⟩
  | .push_BC => ⟨_, rfl, push_moves .bc s⟩
  | .add_A_n8 n => ⟨_, rfl, addA_moves (.imm n) s⟩
  | .rst_00 => ⟨_, rfl, rst_moves 0x00 s⟩
  | .ret_Z => ⟨_, rfl, retIf_moves .z s⟩
  | .ret => ⟨_, rfl, ret_moves s⟩
  | .jp_Z_n16 nn => ⟨_, rfl, jpIf_moves .z nn s⟩
  | .cb_prefix => ⟨_, rfl, cbPrefixed_moves s⟩
  | .call_Z_n16 nn => ⟨_, rfl, callIf_moves .z nn s⟩
  | .call_n16 nn => ⟨_, rfl, call_moves nn s⟩
  | .adc_A_n8 n => ⟨_, rfl, adcA_moves (.imm n) s⟩
  | .rst_08 => ⟨_, rfl, rst_moves 0x08 s⟩
  | .ret_NC => ⟨_, rfl, retIf_moves .nc s⟩
  | .pop_DE => ⟨_, rfl, pop_moves .de s⟩
  | .jp_NC_n16 nn => ⟨_, rfl, jpIf_moves .nc nn s⟩
  | .illegal_D3 => ⟨_, rfl, illegal_moves 0xD3 s⟩
  | .call_NC_n16 nn => ⟨_, rfl, callIf_moves .nc nn s⟩
  | .push_DE => ⟨_, rfl, push_moves .de s⟩
  | .sub_A_n8 n => ⟨_, rfl, subA_moves (.imm n) s⟩
  | .rst_10 => ⟨_, rfl, rst_moves 0x10 s⟩
  | .ret_C => ⟨_, rfl, retIf_moves .c s⟩
  | .reti => ⟨_, rfl, reti_moves s⟩
  | .jp_C_n16 nn => ⟨_, rfl, jpIf_moves .c nn s⟩
  | .illegal_DB => ⟨_, rfl, illegal_moves 0xDB s⟩
  | .call_C_n16 nn => ⟨_, rfl, callIf_moves .c nn s⟩
  | .illegal_DD => ⟨_, rfl, illegal_moves 0xDD s⟩
  | .sbc_A_n8 n => ⟨_, rfl, sbcA_moves (.imm n) s⟩
  | .rst_18 => ⟨_, rfl, rst_moves 0x18 s⟩
  | .ldh_mN8_A n => ⟨_, rfl, stATo_moves (highPage n) 12 s⟩
  | .pop_HL => ⟨_, rfl, pop_moves .hl s⟩
  | .ld_mC_A => ⟨_, rfl, stATo_moves (highPage s.regs.c) 8 s⟩
  | .illegal_E3 => ⟨_, rfl, illegal_moves 0xE3 s⟩
  | .illegal_E4 => ⟨_, rfl, illegal_moves 0xE4 s⟩
  | .push_HL => ⟨_, rfl, push_moves .hl s⟩
  | .and_A_n8 n => ⟨_, rfl, andA_moves (.imm n) s⟩
  | .rst_20 => ⟨_, rfl, rst_moves 0x20 s⟩
  | .add_SP_e8 e => ⟨_, rfl, spE8To_moves .sp 16 e s⟩
  | .jp_HL => ⟨_, rfl, jpHL_moves s⟩
  | .ld_mN16_A nn => ⟨_, rfl, stATo_moves nn 16 s⟩
  | .illegal_EB => ⟨_, rfl, illegal_moves 0xEB s⟩
  | .illegal_EC => ⟨_, rfl, illegal_moves 0xEC s⟩
  | .illegal_ED => ⟨_, rfl, illegal_moves 0xED s⟩
  | .xor_A_n8 n => ⟨_, rfl, xorA_moves (.imm n) s⟩
  | .rst_28 => ⟨_, rfl, rst_moves 0x28 s⟩
  | .ldh_A_mN8 n => ⟨_, rfl, ldAFrom_moves (highPage n) 12 s⟩
  | .pop_AF => ⟨_, rfl, pop_moves .af s⟩
  | .ld_A_mC => ⟨_, rfl, ldAFrom_moves (highPage s.regs.c) 8 s⟩
  | .di => ⟨_, rfl, disableInterrupts_moves s⟩
  | .illegal_F4 => ⟨_, rfl, illegal_moves 0xF4 s⟩
  | .push_AF => ⟨_, rfl, push_moves .af s⟩
  | .or_A_n8 n => ⟨_, rfl, orA_moves (.imm n) s⟩
  | .rst_30 => ⟨_, rfl, rst_moves 0x30 s⟩
  | .ld_HL_SPe8 e => ⟨_, rfl, spE8To_moves .hl 12 e s⟩
  | .ld_SP_HL => ⟨_, rfl, ldSPHL_moves s⟩
  | .ld_A_mN16 nn => ⟨_, rfl, ldAFrom_moves nn 16 s⟩
  | .ei => ⟨_, rfl, enableInterrupts_moves s⟩
  | .illegal_FC => ⟨_, rfl, illegal_moves 0xFC s⟩
  | .illegal_FD => ⟨_, rfl, illegal_moves 0xFD s⟩
  | .cp_A_n8 n => ⟨_, rfl, cpA_moves (.imm n) s⟩
  | .rst_38 => ⟨_, rfl, rst_moves 0x38 s⟩
  | .rlc_B => ⟨_, rfl, shiftPlace_moves rlc8 (.reg .b) s⟩
  | .rlc_C => ⟨_, rfl, shiftPlace_moves rlc8 (.reg .c) s⟩
  | .rlc_D => ⟨_, rfl, shiftPlace_moves rlc8 (.reg .d) s⟩
  | .rlc_E => ⟨_, rfl, shiftPlace_moves rlc8 (.reg .e) s⟩
  | .rlc_H => ⟨_, rfl, shiftPlace_moves rlc8 (.reg .h) s⟩
  | .rlc_L => ⟨_, rfl, shiftPlace_moves rlc8 (.reg .l) s⟩
  | .rlc_mHL => ⟨_, rfl, shiftPlace_moves rlc8 .memHL s⟩
  | .rlc_A => ⟨_, rfl, shiftPlace_moves rlc8 (.reg .a) s⟩
  | .rrc_B => ⟨_, rfl, shiftPlace_moves rrc8 (.reg .b) s⟩
  | .rrc_C => ⟨_, rfl, shiftPlace_moves rrc8 (.reg .c) s⟩
  | .rrc_D => ⟨_, rfl, shiftPlace_moves rrc8 (.reg .d) s⟩
  | .rrc_E => ⟨_, rfl, shiftPlace_moves rrc8 (.reg .e) s⟩
  | .rrc_H => ⟨_, rfl, shiftPlace_moves rrc8 (.reg .h) s⟩
  | .rrc_L => ⟨_, rfl, shiftPlace_moves rrc8 (.reg .l) s⟩
  | .rrc_mHL => ⟨_, rfl, shiftPlace_moves rrc8 .memHL s⟩
  | .rrc_A => ⟨_, rfl, shiftPlace_moves rrc8 (.reg .a) s⟩
  | .rl_B => ⟨_, rfl, rlPlace_moves (.reg .b) s⟩
  | .rl_C => ⟨_, rfl, rlPlace_moves (.reg .c) s⟩
  | .rl_D => ⟨_, rfl, rlPlace_moves (.reg .d) s⟩
  | .rl_E => ⟨_, rfl, rlPlace_moves (.reg .e) s⟩
  | .rl_H => ⟨_, rfl, rlPlace_moves (.reg .h) s⟩
  | .rl_L => ⟨_, rfl, rlPlace_moves (.reg .l) s⟩
  | .rl_mHL => ⟨_, rfl, rlPlace_moves .memHL s⟩
  | .rl_A => ⟨_, rfl, rlPlace_moves (.reg .a) s⟩
  | .rr_B => ⟨_, rfl, rrPlace_moves (.reg .b) s⟩
  | .rr_C => ⟨_, rfl, rrPlace_moves (.reg .c) s⟩
  | .rr_D => ⟨_, rfl, rrPlace_moves (.reg .d) s⟩
  | .rr_E => ⟨_, rfl, rrPlace_moves (.reg .e) s⟩
  | .rr_H => ⟨_, rfl, rrPlace_moves (.reg .h) s⟩
  | .rr_L => ⟨_, rfl, rrPlace_moves (.reg .l) s⟩
  | .rr_mHL => ⟨_, rfl, rrPlace_moves .memHL s⟩
  | .rr_A => ⟨_, rfl, rrPlace_moves (.reg .a) s⟩
  | .sla_B => ⟨_, rfl, shiftPlace_moves sla8 (.reg .b) s⟩
  | .sla_C => ⟨_, rfl, shiftPlace_moves sla8 (.reg .c) s⟩
  | .sla_D => ⟨_, rfl, shiftPlace_moves sla8 (.reg .d) s⟩
  | .sla_E => ⟨_, rfl, shiftPlace_moves sla8 (.reg .e) s⟩
  | .sla_H => ⟨_, rfl, shiftPlace_moves sla8 (.reg .h) s⟩
  | .sla_L => ⟨_, rfl, shiftPlace_moves sla8 (.reg .l) s⟩
  | .sla_mHL => ⟨_, rfl, shiftPlace_moves sla8 .memHL s⟩
  | .sla_A => ⟨_, rfl, shiftPlace_moves sla8 (.reg .a) s⟩
  | .sra_B => ⟨_, rfl, shiftPlace_moves sra8 (.reg .b) s⟩
  | .sra_C => ⟨_, rfl, shiftPlace_moves sra8 (.reg .c) s⟩
  | .sra_D => ⟨_, rfl, shiftPlace_moves sra8 (.reg .d) s⟩
  | .sra_E => ⟨_, rfl, shiftPlace_moves sra8 (.reg .e) s⟩
  | .sra_H => ⟨_, rfl, shiftPlace_moves sra8 (.reg .h) s⟩
  | .sra_L => ⟨_, rfl, shiftPlace_moves sra8 (.reg .l) s⟩
  | .sra_mHL => ⟨_, rfl, shiftPlace_moves sra8 .memHL s⟩
  | .sra_A => ⟨_, rfl, shiftPlace_moves sra8 (.reg .a) s⟩
  | .swap_B => ⟨_, rfl, shiftPlace_moves swap8 (.reg .b) s⟩
  | .swap_C => ⟨_, rfl, shiftPlace_moves swap8 (.reg .c) s⟩
  | .swap_D => ⟨_, rfl, shiftPlace_moves swap8 (.reg .d) s⟩
  | .swap_E => ⟨_, rfl, shiftPlace_moves swap8 (.reg .e) s⟩
  | .swap_H => ⟨_, rfl, shiftPlace_moves swap8 (.reg .h) s⟩
  | .swap_L => ⟨_, rfl, shiftPlace_moves swap8 (.reg .l) s⟩
  | .swap_mHL => ⟨_, rfl, shiftPlace_moves swap8 .memHL s⟩
  | .swap_A => ⟨_, rfl, shiftPlace_moves swap8 (.reg .a) s⟩
  | .srl_B => ⟨_, rfl, shiftPlace_moves srl8 (.reg .b) s⟩
  | .srl_C => ⟨_, rfl, shiftPlace_moves srl8 (.reg .c) s⟩
  | .srl_D => ⟨_, rfl, shiftPlace_moves srl8 (.reg .d) s⟩
  | .srl_E => ⟨_, rfl, shiftPlace_moves srl8 (.reg .e) s⟩
  | .srl_H => ⟨_, rfl, shiftPlace_moves srl8 (.reg .h) s⟩
  | .srl_L => ⟨_, rfl, shiftPlace_moves srl8 (.reg .l) s⟩
  | .srl_mHL => ⟨_, rfl, shiftPlace_moves srl8 .memHL s⟩
  | .srl_A => ⟨_, rfl, shiftPlace_moves srl8 (.reg .a) s⟩
  | .bit_0_B => ⟨_, rfl, bitPlace_moves 0 (.reg .b) s⟩
  | .bit_0_C => ⟨_, rfl, bitPlace_moves 0 (.reg .c) s⟩
  | .bit_0_D => ⟨_, rfl, bitPlace_moves 0 (.reg .d) s⟩
  | .bit_0_E => ⟨_, rfl, bitPlace_moves 0 (.reg .e) s⟩
  | .bit_0_H => ⟨_, rfl, bitPlace_moves 0 (.reg .h) s⟩
  | .bit_0_L => ⟨_, rfl, bitPlace_moves 0 (.reg .l) s⟩
  | .bit_0_mHL => ⟨_, rfl, bitPlace_moves 0 .memHL s⟩
  | .bit_0_A => ⟨_, rfl, bitPlace_moves 0 (.reg .a) s⟩
  | .bit_1_B => ⟨_, rfl, bitPlace_moves 1 (.reg .b) s⟩
  | .bit_1_C => ⟨_, rfl, bitPlace_moves 1 (.reg .c) s⟩
  | .bit_1_D => ⟨_, rfl, bitPlace_moves 1 (.reg .d) s⟩
  | .bit_1_E => ⟨_, rfl, bitPlace_moves 1 (.reg .e) s⟩
  | .bit_1_H => ⟨_, rfl, bitPlace_moves 1 (.reg .h) s⟩
  | .bit_1_L => ⟨_, rfl, bitPlace_moves 1 (.reg .l) s⟩
  | .bit_1_mHL => ⟨_, rfl, bitPlace_moves 1 .memHL s⟩
  | .bit_1_A => ⟨_, rfl, bitPlace_moves 1 (.reg .a) s⟩
  | .bit_2_B => ⟨_, rfl, bitPlace_moves 2 (.reg .b) s⟩
  | .bit_2_C => ⟨_, rfl, bitPlace_moves 2 (.reg .c) s⟩
  | .bit_2_D => ⟨_, rfl, bitPlace_moves 2 (.reg .d) s⟩
  | .bit_2_E => ⟨_, rfl, bitPlace_moves 2 (.reg .e) s⟩
  | .bit_2_H => ⟨_, rfl, bitPlace_moves 2 (.reg .h) s⟩
  | .bit_2_L => ⟨_, rfl, bitPlace_moves 2 (.reg .l) s⟩
  | .bit_2_mHL => ⟨_, rfl, bitPlace_moves 2 .memHL s⟩
  | .bit_2_A => ⟨_, rfl, bitPlace_moves 2 (.reg .a) s⟩
  | .bit_3_B => ⟨_, rfl, bitPlace_moves 3 (.reg .b) s⟩
  | .bit_3_C => ⟨_, rfl, bitPlace_moves 3 (.reg .c) s⟩
  | .bit_3_D => ⟨_, rfl, bitPlace_moves 3 (.reg .d) s⟩
  | .bit_3_E => ⟨_, rfl, bitPlace_moves 3 (.reg .e) s⟩
  | .bit_3_H => ⟨_, rfl, bitPlace_moves 3 (.reg .h) s⟩
  | .bit_3_L => ⟨_, rfl, bitPlace_moves 3 (.reg .l) s⟩
  | .bit_3_mHL => ⟨_, rfl, bitPlace_moves 3 .memHL s⟩
  | .bit_3_A => ⟨_, rfl, bitPlace_moves 3 (.reg .a) s⟩
  | .bit_4_B => ⟨_, rfl, bitPlace_moves 4 (.reg .b) s⟩
  | .bit_4_C => ⟨_, rfl, bitPlace_moves 4 (.reg .c) s⟩
  | .bit_4_D => ⟨_, rfl, bitPlace_moves 4 (.reg .d) s⟩
  | .bit_4_E => ⟨_, rfl, bitPlace_moves 4 (.reg .e) s⟩
  | .bit_4_H => ⟨_, rfl, bitPlace_moves 4 (.reg .h) s⟩
  | .bit_4_L => ⟨_, rfl, bitPlace_moves 4 (.reg .l) s⟩
  | .bit_4_mHL => ⟨_, rfl, bitPlace_moves 4 .memHL s⟩
  | .bit_4_A => ⟨_, rfl, bitPlace_moves 4 (.reg .a) s⟩
  | .bit_5_B => ⟨_, rfl, bitPlace_moves 5 (.reg .b) s⟩
  | .bit_5_C => ⟨_, rfl, bitPlace_moves 5 (.reg .c) s⟩
  | .bit_5_D => ⟨_, rfl, bitPlace_moves 5 (.reg .d) s⟩
  | .bit_5_E => ⟨_, rfl, bitPlace_moves 5 (.reg .e) s⟩
  | .bit_5_H => ⟨_, rfl, bitPlace_moves 5 (.reg .h) s⟩
  | .bit_5_L => ⟨_, rfl, bitPlace_moves 5 (.reg .l) s⟩
  | .bit_5_mHL => ⟨_, rfl, bitPlace_moves 5 .memHL s⟩
  | .bit_5_A => ⟨_, rfl, bitPlace_moves 5 (.reg .a) s⟩
  | .bit_6_B => ⟨_, rfl, bitPlace_moves 6 (.reg .b) s⟩
  | .bit_6_C => ⟨_, rfl, bitPlace_moves 6 (.reg .c) s⟩
  | .bit_6_D => ⟨_, rfl, bitPlace_moves 6 (.reg .d) s⟩
  | .bit_6_E => ⟨_, rfl, bitPlace_moves 6 (.reg .e) s⟩
  | .bit_6_H => ⟨_, rfl, bitPlace_moves 6 (.reg .h) s⟩
  | .bit_6_L => ⟨_, rfl, bitPlace_moves 6 (.reg .l) s⟩
  | .bit_6_mHL => ⟨_, rfl, bitPlace_moves 6 .memHL s⟩
  | .bit_6_A => ⟨_, rfl, bitPlace_moves 6 (.reg .a) s⟩
  | .bit_7_B => ⟨_, rfl, bitPlace_moves 7 (.reg .b) s⟩
  | .bit_7_C => ⟨_, rfl, bitPlace_moves 7 (.reg .c) s⟩
  | .bit_7_D => ⟨_, rfl, bitPlace_moves 7 (.reg .d) s⟩
  | .bit_7_E => ⟨_, rfl, bitPlace_moves 7 (.reg .e) s⟩
  | .bit_7_H => ⟨_, rfl, bitPlace_moves 7 (.reg .h) s⟩
  | .bit_7_L => ⟨_, rfl, bitPlace_moves 7 (.reg .l) s⟩
  | .bit_7_mHL => ⟨_, rfl, bitPlace_moves 7 .memHL s⟩
  | .bit_7_A => ⟨_, rfl, bitPlace_moves 7 (.reg .a) s⟩
  | .res_0_B => ⟨_, rfl, resPlace_moves 0 (.reg .b) s⟩
  | .res_0_C => ⟨_, rfl, resPlace_moves 0 (.reg .c) s⟩
  | .res_0_D => ⟨_, rfl, resPlace_moves 0 (.reg .d) s⟩
  | .res_0_E => ⟨_, rfl, resPlace_moves 0 (.reg .e) s⟩
  | .res_0_H => ⟨_, rfl, resPlace_moves 0 (.reg .h) s⟩
  | .res_0_L => ⟨_, rfl, resPlace_moves 0 (.reg .l) s⟩
  | .res_0_mHL => ⟨_, rfl, resPlace_moves 0 .memHL s⟩
  | .res_0_A => ⟨_, rfl, resPlace_moves 0 (.reg .a) s⟩
  | .res_1_B => ⟨_, rfl, resPlace_moves 1 (.reg .b) s⟩
  | .res_1_C => ⟨_, rfl, resPlace_moves 1 (.reg .c) s⟩
  | .res_1_D => ⟨_, rfl, resPlace_moves 1 (.reg .d) s⟩
  | .res_1_E => ⟨_, rfl, resPlace_moves 1 (.reg .e) s⟩
  | .res_1_H => ⟨_, rfl, resPlace_moves 1 (.reg .h) s⟩
  | .res_1_L => ⟨_, rfl, resPlace_moves 1 (.reg .l) s⟩
  | .res_1_mHL => ⟨_, rfl, resPlace_moves 1 .memHL s⟩
  | .res_1_A => ⟨_, rfl, resPlace_moves 1 (.reg .a) s⟩
  | .res_2_B => ⟨_, rfl, resPlace_moves 2 (.reg .b) s⟩
  | .res_2_C => ⟨_, rfl, resPlace_moves 2 (.reg .c) s⟩
  | .res_2_D => ⟨_, rfl, resPlace_moves 2 (.reg .d) s⟩
  | .res_2_E => ⟨_, rfl, resPlace_moves 2 (.reg .e) s⟩
  | .res_2_H => ⟨_, rfl, resPlace_moves 2 (.reg .h) s⟩
  | .res_2_L => ⟨_, rfl, resPlace_moves 2 (.reg .l) s⟩
  | .res_2_mHL => ⟨_, rfl, resPlace_moves 2 .memHL s⟩
  | .res_2_A => ⟨_, rfl, resPlace_moves 2 (.reg .a) s⟩
  | .res_3_B => ⟨_, rfl, resPlace_moves 3 (.reg .b) s⟩
  | .res_3_C => ⟨_, rfl, resPlace_moves 3 (.reg .c) s⟩
  | .res_3_D => ⟨_, rfl, resPlace_moves 3 (.reg .d) s⟩
  | .res_3_E => ⟨_, rfl, resPlace_moves 3 (.reg .e) s⟩
  | .res_3_H => ⟨_, rfl, resPlace_moves 3 (.reg .h) s⟩
  | .res_3_L => ⟨_, rfl, resPlace_moves 3 (.reg .l) s⟩
  | .res_3_mHL => ⟨_, rfl, resPlace_moves 3 .memHL s⟩
  | .res_3_A => ⟨_, rfl, resPlace_moves 3 (.reg .a) s⟩
  | .res_4_B => ⟨_, rfl, resPlace_moves 4 (.reg .b) s⟩
  | .res_4_C => ⟨_, rfl, resPlace_moves 4 (.reg .c) s⟩
  | .res_4_D => ⟨_, rfl, resPlace_moves 4 (.reg .d) s⟩
  | .res_4_E => ⟨_, rfl, resPlace_moves 4 (.reg .e) s⟩
  | .res_4_H => ⟨_, rfl, resPlace_moves 4 (.reg .h) s⟩
  | .res_4_L => ⟨_, rfl, resPlace_moves 4 (.reg .l) s⟩
  | .res_4_mHL => ⟨_, rfl, resPlace_moves 4 .memHL s⟩
  | .res_4_A => ⟨_, rfl, resPlace_moves 4 (.reg .a) s⟩
  | .res_5_B => ⟨_, rfl, resPlace_moves 5 (.reg .b) s⟩
  | .res_5_C => ⟨_, rfl, resPlace_moves 5 (.reg .c) s⟩
  | .res_5_D => ⟨_, rfl, resPlace_moves 5 (.reg .d) s⟩
  | .res_5_E => ⟨_, rfl, resPlace_moves 5 (.reg .e) s⟩
  | .res_5_H => ⟨_, rfl, resPlace_moves 5 (.reg .h) s⟩
  | .res_5_L => ⟨_, rfl, resPlace_moves 5 (.reg .l) s⟩
  | .res_5_mHL => ⟨_, rfl, resPlace_moves 5 .memHL s⟩
  | .res_5_A => ⟨_, rfl, resPlace_moves 5 (.reg .a) s⟩
  | .res_6_B => ⟨_, rfl, resPlace_moves 6 (.reg .b) s⟩
  | .res_6_C => ⟨_, rfl, resPlace_moves 6 (.reg .c) s⟩
  | .res_6_D => ⟨_, rfl, resPlace_moves 6 (.reg .d) s⟩
  | .res_6_E => ⟨_, rfl, resPlace_moves 6 (.reg .e) s⟩
  | .res_6_H => ⟨_, rfl, resPlace_moves 6 (.reg .h) s⟩
  | .res_6_L => ⟨_, rfl, resPlace_moves 6 (.reg .l) s⟩
  | .res_6_mHL => ⟨_, rfl, resPlace_moves 6 .memHL s⟩
  | .res_6_A => ⟨_, rfl, resPlace_moves 6 (.reg .a) s⟩
  | .res_7_B => ⟨_, rfl, resPlace_moves 7 (.reg .b) s⟩
  | .res_7_C => ⟨_, rfl, resPlace_moves 7 (.reg .c) s⟩
  | .res_7_D => ⟨_, rfl, resPlace_moves 7 (.reg .d) s⟩
  | .res_7_E => ⟨_, rfl, resPlace_moves 7 (.reg .e) s⟩
  | .res_7_H => ⟨_, rfl, resPlace_moves 7 (.reg .h) s⟩
  | .res_7_L => ⟨_, rfl, resPlace_moves 7 (.reg .l) s⟩
  | .res_7_mHL => ⟨_, rfl, resPlace_moves 7 .memHL s⟩
  | .res_7_A => ⟨_, rfl, resPlace_moves 7 (.reg .a) s⟩
  | .set_0_B => ⟨_, rfl, setPlace_moves 0 (.reg .b) s⟩
  | .set_0_C => ⟨_, rfl, setPlace_moves 0 (.reg .c) s⟩
  | .set_0_D => ⟨_, rfl, setPlace_moves 0 (.reg .d) s⟩
  | .set_0_E => ⟨_, rfl, setPlace_moves 0 (.reg .e) s⟩
  | .set_0_H => ⟨_, rfl, setPlace_moves 0 (.reg .h) s⟩
  | .set_0_L => ⟨_, rfl, setPlace_moves 0 (.reg .l) s⟩
  | .set_0_mHL => ⟨_, rfl, setPlace_moves 0 .memHL s⟩
  | .set_0_A => ⟨_, rfl, setPlace_moves 0 (.reg .a) s⟩
  | .set_1_B => ⟨_, rfl, setPlace_moves 1 (.reg .b) s⟩
  | .set_1_C => ⟨_, rfl, setPlace_moves 1 (.reg .c) s⟩
  | .set_1_D => ⟨_, rfl, setPlace_moves 1 (.reg .d) s⟩
  | .set_1_E => ⟨_, rfl, setPlace_moves 1 (.reg .e) s⟩
  | .set_1_H => ⟨_, rfl, setPlace_moves 1 (.reg .h) s⟩
  | .set_1_L => ⟨_, rfl, setPlace_moves 1 (.reg .l) s⟩
  | .set_1_mHL => ⟨_, rfl, setPlace_moves 1 .memHL s⟩
  | .set_1_A => ⟨_, rfl, setPlace_moves 1 (.reg .a) s⟩
  | .set_2_B => ⟨_, rfl, setPlace_moves 2 (.reg .b) s⟩
  | .set_2_C => ⟨_, rfl, setPlace_moves 2 (.reg .c) s⟩
  | .set_2_D => ⟨_, rfl, setPlace_moves 2 (.reg .d) s⟩
  | .set_2_E => ⟨_, rfl, setPlace_moves 2 (.reg .e) s⟩
  | .set_2_H => ⟨_, rfl, setPlace_moves 2 (.reg .h) s⟩
  | .set_2_L => ⟨_, rfl, setPlace_moves 2 (.reg .l) s⟩
  | .set_2_mHL => ⟨_, rfl, setPlace_moves 2 .memHL s⟩
  | .set_2_A => ⟨_, rfl, setPlace_moves 2 (.reg .a) s⟩
  | .set_3_B => ⟨_, rfl, setPlace_moves 3 (.reg .b) s⟩
  | .set_3_C => ⟨_, rfl, setPlace_moves 3 (.reg .c) s⟩
  | .set_3_D => ⟨_, rfl, setPlace_moves 3 (.reg .d) s⟩
  | .set_3_E => ⟨_, rfl, setPlace_moves 3 (.reg .e) s⟩
  | .set_3_H => ⟨_, rfl, setPlace_moves 3 (.reg .h) s⟩
  | .set_3_L => ⟨_, rfl, setPlace_moves 3 (.reg .l) s⟩
  | .set_3_mHL => ⟨_, rfl, setPlace_moves 3 .memHL s⟩
  | .set_3_A => ⟨_, rfl, setPlace_moves 3 (.reg .a) s⟩
  | .set_4_B => ⟨_, rfl, setPlace_moves 4 (.reg .b) s⟩
  | .set_4_C => ⟨_, rfl, setPlace_moves 4 (.reg .c) s⟩
  | .set_4_D => ⟨_, rfl, setPlace_moves 4 (.reg .d) s⟩
  | .set_4_E => ⟨_, rfl, setPlace_moves 4 (.reg .e) s⟩
  | .set_4_H => ⟨_, rfl, setPlace_moves 4 (.reg .h) s⟩
  | .set_4_L => ⟨_, rfl, setPlace_moves 4 (.reg .l) s⟩
  | .set_4_mHL => ⟨_, rfl, setPlace_moves 4 .memHL s⟩
  | .set_4_A => ⟨_, rfl, setPlace_moves 4 (.reg .a) s⟩
  | .set_5_B => ⟨_, rfl, setPlace_moves 5 (.reg .b) s⟩
  | .set_5_C => ⟨_, rfl, setPlace_moves 5 (.reg .c) s⟩
  | .set_5_D => ⟨_, rfl, setPlace_moves 5 (.reg .d) s⟩
  | .set_5_E => ⟨_, rfl, setPlace_moves 5 (.reg .e) s⟩
  | .set_5_H => ⟨_, rfl, setPlace_moves 5 (.reg .h) s⟩
  | .set_5_L => ⟨_, rfl, setPlace_moves 5 (.reg .l) s⟩
  | .set_5_mHL => ⟨_, rfl, setPlace_moves 5 .memHL s⟩
  | .set_5_A => ⟨_, rfl, setPlace_moves 5 (.reg .a) s⟩
  | .set_6_B => ⟨_, rfl, setPlace_moves 6 (.reg .b) s⟩
  | .set_6_C => ⟨_, rfl, setPlace_moves 6 (.reg .c) s⟩
  | .set_6_D => ⟨_, rfl, setPlace_moves 6 (.reg .d) s⟩
  | .set_6_E => ⟨_, rfl, setPlace_moves 6 (.reg .e) s⟩
  | .set_6_H => ⟨_, rfl, setPlace_moves 6 (.reg .h) s⟩
  | .set_6_L => ⟨_, rfl, setPlace_moves 6 (.reg .l) s⟩
  | .set_6_mHL => ⟨_, rfl, setPlace_moves 6 .memHL s⟩
  | .set_6_A => ⟨_, rfl, setPlace_moves 6 (.reg .a) s⟩
  | .set_7_B => ⟨_, rfl, setPlace_moves 7 (.reg .b) s⟩
  | .set_7_C => ⟨_, rfl, setPlace_moves 7 (.reg .c) s⟩
  | .set_7_D => ⟨_, rfl, setPlace_moves 7 (.reg .d) s⟩
  | .set_7_E => ⟨_, rfl, setPlace_moves 7 (.reg .e) s⟩
  | .set_7_H => ⟨_, rfl, setPlace_moves 7 (.reg .h) s⟩
  | .set_7_L => ⟨_, rfl, setPlace_moves 7 (.reg .l) s⟩
  | .set_7_mHL => ⟨_, rfl, setPlace_moves 7 .memHL s⟩
  | .set_7_A => ⟨_, rfl, setPlace_moves 7 (.reg .a) s⟩

theorem Moves.any {s t : State} (h : Moves false s t) : Moves true s t := by
  induction h with
  | refl => exact .refl
  | tail _ h ih =>
    refine ih.tail ?_
    cases h with
    | switchSpeed hw => cases hw
    | _ => constructor <;> assumption

/-- Every instruction answers a next state, reached by moves of the CPU; only STOP switches the speed. -/
theorem exec_moves (s : State) (i : Instr) : ∃ t, exec i s = .next t ∧ Moves true s t ∧ (i ≠ .stop → Moves false s t) := by
  obtain ⟨t, h, hm⟩ := exec_moves_by s i
  by_cases hi : i = .stop
  · exact ⟨t, h, by simpa [hi] using hm, fun e => absurd hi e⟩
  · have hm' : Moves false s t := by simpa [hi] using hm
    exact ⟨t, h, hm'.any, fun _ => hm'⟩

/-- No instruction faults or is refused: a fatal condition is recorded in the next state (R601). -/
theorem exec_answers_next (i : Instr) (s : State) : ∃ t, exec i s = .next t :=
  let ⟨t, h, _⟩ := exec_moves s i
  ⟨t, h⟩

theorem moves_of_exec {i : Instr} {s t : State} (h : exec i s = .next t) : Moves true s t := by
  obtain ⟨u, hu, hm, _⟩ := exec_moves s i
  rw [hu] at h
  cases h
  exact hm

/-! ## The unit of `step_cycles` -/

theorem takeInterrupt_moves (s : State) (i : Source) : Moves w s (s.takeInterrupt i) :=
  ((Moves.one (.halted s false)).andThen (.ime _ false)).trans
    (push16_moves _ _ _ fun t => ((Moves.one (.clearRequest t i)).trans (jump_moves _ _)).trans (tick_moves _ _))

theorem debugAction_moves (s : State) (x : DebugAction) : Moves w s (s.debugAction x) := by
  cases x with
  | setReg8 r v => exact setReg8_moves s r v
  | setF v => exact setF_moves s v
  | setSP v => exact setSP_moves s v
  | setPC v => exact jump_moves s v
  | store a v => exact memWrite_moves s a v id fun t => .refl

theorem debugActions_moves (l : List DebugAction) : ∀ s : State, Moves w s (State.debugActions l s) := by
  induction l with
  | nil => exact fun s => .refl
  | cons x rest ih =>
    intro s
    unfold State.debugActions
    split
    · exact .refl
    · exact (debugAction_moves s x).trans (ih _)

theorem debugHook_moves (s : State) : Moves w s s.debugHook := by
  unfold State.debugHook
  split
  · split
    · exact .refl
    · exact (Moves.one (.debugger s _)).trans (debugActions_moves _ _)
  · exact .refl

theorem applyPendingEnable_moves (s : State) : Moves w s s.applyPendingEnable := by
  unfold State.applyPendingEnable
  split
  · exact (Moves.one (.ime s true)).andThen (.imePending _ false)
  · exact .refl

theorem fetchExec_moves (s : State) : ∃ t, s.fetchExec = .next t ∧ Moves true s t := by
  obtain ⟨t, h, hm, _⟩ := exec_moves s.fetchInstr.2 s.fetchInstr.1
  exact ⟨t, h, (Moves.one (.pc s _)).trans hm⟩

theorem runOne_moves (s : State) : ∃ t, s.runOne = .next t ∧ Moves true s t := by
  unfold State.runOne
  split
  · exact ⟨_, rfl, tick_moves s 4⟩
  · split
    · exact ⟨_, rfl, (applyPendingEnable_moves s).trans (debugHook_moves _)⟩
    · obtain ⟨t, h, hm⟩ := fetchExec_moves s.applyPendingEnable.debugHook
      exact ⟨t, h, ((applyPendingEnable_moves s).trans (debugHook_moves _)).trans hm⟩

/-- A unit of `step_cycles` always answers a next state, reached by moves. -/
theorem stepCycles_moves (s : State) : ∃ t, s.stepCycles = .next t ∧ Moves true s t := by
  unfold State.stepCycles
  split
  · split
    · exact ⟨_, rfl, takeInterrupt_moves s _⟩
    · split
      · exact ⟨_, rfl, (Moves.one (.halted s false)).trans (tick_moves _ _)⟩
      · exact runOne_moves s
  · exact runOne_moves s

/-- The system step: key events, moves, and the peripherals unless a fatal condition was raised (R614, R601). -/
theorem systemStep_moves (s : State) :
    ∃ t, Moves true s.takeKeyEvents t ∧ s.systemStep = .next (t.afterCycles s.mmu.doubleSpeed) := by
  obtain ⟨t, h, hm⟩ := stepCycles_moves s.takeKeyEvents
  exact ⟨t, hm, by unfold State.systemStep; rw [h]⟩

end Sys2Proof.Machine
end

