-- ==== Sys2Proof/Tests/Slice0.lean ====
section
/-! SUPPORT. The model's own tests and the witnesses of the statements' hypotheses. Expected results are those of
95_test_vectors.md (its part is named above each group) and the bit fields of 30_encoding.md. -/

namespace Sys2Proof.Machine.Tests

open Sys2Proof Sys2Proof.Machine

/-! ## Well-formedness (R301) -/

theorem test_wellFormed_refuses_bare_prefix : Instr.cb_prefix.wellFormed = false := rfl
theorem test_wellFormed_takes_operands :
    (Instr.ld_BC_n16 0xFFFF).wellFormed = true ∧ (Instr.jr_e8 0x80).wellFormed = true ∧ Instr.illegal_D3.wellFormed = true := by
  decide
theorem test_no_bytes_decode_to_bare_prefix : ∀ b2 : Byte, decodeBytes 0xCB b2 0 ≠ .cb_prefix := by decide

/-! ## Decoding: each family's words from their fields (R302-R312) -/

/-- r[k] (R303). -/
def regCode : Reg8 → BitVec 3
  | .b => 0b000 | .c => 0b001 | .d => 0b010 | .e => 0b011 | .h => 0b100 | .l => 0b101 | .a => 0b111

/-- r[k] with (HL) (R303). -/
def placeCode : Place8 → BitVec 3
  | .reg r => regCode r
  | .memHL => 0b110

/-- rp[p] (R304). -/
def pairCode : Pair → BitVec 2
  | .bc => 0b00 | .de => 0b01 | .hl => 0b10 | .sp => 0b11

/-- rp2[p] (R305). -/
def stackCode : StackPair → BitVec 2
  | .bc => 0b00 | .de => 0b01 | .hl => 0b10 | .af => 0b11

/-- cc[c] (R306). -/
def condCode : Cond → BitVec 2
  | .nz => 0b00 | .z => 0b01 | .nc => 0b10 | .c => 0b11

/-- The opcode of an ALU row: 10 yyy zzz, or 11 yyy 110 with an immediate byte (R442). -/
def aluCode (y : BitVec 3) : Src8 → Byte
  | .reg r => 0b10#2 ++ y ++ regCode r
  | .memHL => 0b10#2 ++ y ++ 0b110#3
  | .imm _ => 0b11#2 ++ y ++ 0b110#3

theorem test_decode_ld_reg_reg : ∀ r ∈ rowsLdRegReg,
    decodeBytes (0b01#2 ++ regCode r.2.2.1 ++ regCode r.2.2.2) 0 0 = r.2.1 := by decide
theorem test_decode_ld_reg_n8 : ∀ r ∈ rowsLdRegImm 0x5A, decodeBytes (0b00#2 ++ regCode r.2.2 ++ 0b110#3) 0x5A 0 = r.2.1 := by
  decide
theorem test_decode_ld_reg_mHL : ∀ r ∈ rowsLdRegMem, decodeBytes (0b01#2 ++ regCode r.2.2 ++ 0b110#3) 0 0 = r.2.1 := by decide
theorem test_decode_ld_pair_n16 : ∀ r ∈ rowsLdPairImm 0x1234,
    decodeBytes (0b00#2 ++ pairCode r.2.2 ++ 0b0001#4) 0x34 0x12 = r.2.1 := by decide
theorem test_decode_push_pop :
    (∀ r ∈ rowsPush, decodeBytes (0b11#2 ++ stackCode r.2.2 ++ 0b0101#4) 0 0 = r.2.1) ∧
    ∀ r ∈ rowsPop, decodeBytes (0b11#2 ++ stackCode r.2.2 ++ 0b0001#4) 0 0 = r.2.1 := by decide
theorem test_decode_add_adc :
    (∀ r ∈ rowsAdd 0x5A, decodeBytes (aluCode 0 r.2.2) 0x5A 0 = r.2.1) ∧
    ∀ r ∈ rowsAdc 0x5A, decodeBytes (aluCode 1 r.2.2) 0x5A 0 = r.2.1 := by decide
theorem test_decode_sub_sbc :
    (∀ r ∈ rowsSub 0x5A, decodeBytes (aluCode 2 r.2.2) 0x5A 0 = r.2.1) ∧
    ∀ r ∈ rowsSbc 0x5A, decodeBytes (aluCode 3 r.2.2) 0x5A 0 = r.2.1 := by decide
theorem test_decode_and_xor :
    (∀ r ∈ rowsAnd 0x5A, decodeBytes (aluCode 4 r.2.2) 0x5A 0 = r.2.1) ∧
    ∀ r ∈ rowsXor 0x5A, decodeBytes (aluCode 5 r.2.2) 0x5A 0 = r.2.1 := by decide
theorem test_decode_or_cp :
    (∀ r ∈ rowsOr 0x5A, decodeBytes (aluCode 6 r.2.2) 0x5A 0 = r.2.1) ∧
    ∀ r ∈ rowsCp 0x5A, decodeBytes (aluCode 7 r.2.2) 0x5A 0 = r.2.1 := by decide
theorem test_decode_inc_dec :
    (∀ r ∈ rowsInc8, decodeBytes (0b00#2 ++ placeCode r.2.2 ++ 0b100#3) 0 0 = r.2.1) ∧
    ∀ r ∈ rowsDec8, decodeBytes (0b00#2 ++ placeCode r.2.2 ++ 0b101#3) 0 0 = r.2.1 := by decide
theorem test_decode_pair_arithmetic :
    (∀ r ∈ rowsAddHL, decodeBytes (0b00#2 ++ pairCode r.2.2 ++ 0b1001#4) 0 0 = r.2.1) ∧
    (∀ r ∈ rowsIncPair, decodeBytes (0b00#2 ++ pairCode r.2.2 ++ 0b0011#4) 0 0 = r.2.1) ∧
    ∀ r ∈ rowsDecPair, decodeBytes (0b00#2 ++ pairCode r.2.2 ++ 0b1011#4) 0 0 = r.2.1 := by decide
theorem test_decode_shift : ∀ r ∈ rowsShift,
    decodeBytes 0xCB (0b00#2 ++ BitVec.ofNat 3 r.2.2.1 ++ placeCode r.2.2.2) 0 = r.2.1 := by decide
theorem test_decode_bit : ∀ r ∈ rowsBit,
    decodeBytes 0xCB (0b01#2 ++ BitVec.ofNat 3 r.2.2.1 ++ placeCode r.2.2.2) 0 = r.2.1 := by decide
theorem test_decode_res : ∀ r ∈ rowsRes,
    decodeBytes 0xCB (0b10#2 ++ BitVec.ofNat 3 r.2.2.1 ++ placeCode r.2.2.2) 0 = r.2.1 := by decide
theorem test_decode_set : ∀ r ∈ rowsSet,
    decodeBytes 0xCB (0b11#2 ++ BitVec.ofNat 3 r.2.2.1 ++ placeCode r.2.2.2) 0 = r.2.1 := by decide
theorem test_decode_conditional :
    (∀ r ∈ rowsJpIf 0x0200, decodeBytes (0b110#3 ++ condCode r.2.2 ++ 0b010#3) 0x00 0x02 = r.2.1) ∧
    (∀ r ∈ rowsJrIf 0xFE, decodeBytes (0b001#3 ++ condCode r.2.2 ++ 0b000#3) 0xFE 0 = r.2.1) ∧
    (∀ r ∈ rowsCallIf 0x0200, decodeBytes (0b110#3 ++ condCode r.2.2 ++ 0b100#3) 0x00 0x02 = r.2.1) ∧
    ∀ r ∈ rowsRetIf, decodeBytes (0b110#3 ++ condCode r.2.2 ++ 0b000#3) 0 0 = r.2.1 := by decide
theorem test_decode_rst : ∀ r ∈ rowsRst, decodeBytes (0b11#2 ++ BitVec.ofNat 3 (r.2.2.toNat / 8) ++ 0b111#3) 0 0 = r.2.1 := by
  decide
theorem test_decode_illegal : ∀ r ∈ rowsIllegal, decodeBytes r.1 0xFF 0xFF = r.2 := by decide

/-- The rows of no field: opcode (R314), byte 2, byte 3, instruction. -/
theorem test_decode_single_rows : ∀ r ∈
    [(0b01110000#8, 0x00#8, 0x00#8, Instr.ld_mHL_B), (0b01110001, 0, 0, .ld_mHL_C), (0b01110010, 0, 0, .ld_mHL_D),
     (0b01110011, 0, 0, .ld_mHL_E), (0b01110100, 0, 0, .ld_mHL_H), (0b01110101, 0, 0, .ld_mHL_L), (0b01110111, 0, 0, .ld_mHL_A),
     (0b00110110, 0x99, 0, .ld_mHL_n8 0x99), (0x02, 0, 0, .ld_mBC_A), (0x12, 0, 0, .ld_mDE_A), (0x22, 0, 0, .ld_mHLinc_A),
     (0x32, 0, 0, .ld_mHLdec_A), (0x0A, 0, 0, .ld_A_mBC), (0x1A, 0, 0, .ld_A_mDE), (0x2A, 0, 0, .ld_A_mHLinc),
     (0x3A, 0, 0, .ld_A_mHLdec), (0x08, 0x00, 0xC0, .ld_mN16_SP 0xC000), (0xF9, 0, 0, .ld_SP_HL), (0xE0, 0x46, 0, .ldh_mN8_A 0x46),
     (0xF0, 0x44, 0, .ldh_A_mN8 0x44), (0xE2, 0, 0, .ld_mC_A), (0xF2, 0, 0, .ld_A_mC), (0xEA, 0x34, 0x12, .ld_mN16_A 0x1234),
     (0xFA, 0x34, 0x12, .ld_A_mN16 0x1234), (0xE8, 0xFE, 0, .add_SP_e8 0xFE), (0xF8, 0x02, 0, .ld_HL_SPe8 0x02)] ++
    [(0x07#8, 0x00#8, 0x00#8, Instr.rlca), (0x0F, 0, 0, .rrca), (0x17, 0, 0, .rla), (0x1F, 0, 0, .rra), (0x27, 0, 0, .daa),
     (0x2F, 0, 0, .cpl), (0x37, 0, 0, .scf), (0x3F, 0, 0, .ccf), (0xC3, 0x50, 0x01, .jp_n16 0x0150), (0xE9, 0, 0, .jp_HL),
     (0x18, 0xFE, 0, .jr_e8 0xFE), (0xCD, 0x00, 0x20, .call_n16 0x2000), (0xC9, 0, 0, .ret), (0xD9, 0, 0, .reti),
     (0x00, 0, 0, .nop), (0x10, 0, 0, .stop), (0x76, 0, 0, .halt), (0xF3, 0, 0, .di), (0xFB, 0, 0, .ei)],
    decodeBytes r.1 r.2.1 r.2.2.1 = r.2.2.2 := by decide

theorem test_decode_truncated :
    decode [] = .error .truncated ∧ decode [0xC3, 0x50] = .error .truncated ∧ decode [0xCB] = .error .truncated ∧
      decode [0x3E] = .error .truncated := by decide

/-- Words numbered as the opcode table numbers them (assumption 11), and run as the first instruction after reset. -/
theorem test_table_words :
    decodeTableWord 8 0x41 = some .ld_B_C ∧ decodeTableWord 16 0xCB46 = some .bit_0_mHL ∧
      decodeTableWord 16 0x3E = some (.ld_A_n8 0) ∧ decodeTableWord 24 0x0150C3 = some (.jp_n16 0x0150) := by decide
theorem test_fetch_word_runs :
    (match step (State.reset.withFetchWord 16 0x5A3E) with | .next t => some (t.regs.a, t.pc, t.cost) | _ => none)
      = some (0x5A, 2, 8) := by decide
theorem test_fetch_word_runs_cb :
    (match step (State.reset.withFetchWord 16 0xCBC0) with | .next t => some (t.regs.b, t.pc, t.cost) | _ => none)
      = some (1, 2, 8) := by decide

/-! ## One instruction: bytes at 0x0100 of the cartridge, fetched and executed -/

/-- A DMG machine past its boot ROM, PC at 0x0100, everything else at reset. -/
def start : State := { State.reset with pc := 0x0100, sp := 0xFFFE, mmu := { Mmu.reset with bootMode := false } }

/-- `start` in CGB mode. -/
def startCgb : State := { start with mmu := { start.mmu with cgb := true } }

/-- The bytes put in the cartridge at PC. -/
def placeCode8 : Nat → List Byte → State → State
  | _, [], s => s
  | a, b :: rest, s =>
    placeCode8 (a + 1) rest { s with mmu := { s.mmu with cart := { s.mmu.cart with rom := s.mmu.cart.rom.write a b } } }

/-- What `f` shows after one unit of `step_cycles` on the code. -/
def after {α : Type} (code : List Byte) (s : State) (f : State → α) : Option α :=
  match (placeCode8 s.pc.toNat code s).stepCycles with
  | .next t => some (f t)
  | _ => none

theorem test_ld_B_C :
    after [0x41] (start.setReg8 .c 0x5A) (fun t => (t.regs.b, t.pc, t.cost)) = some (0x5A#8, 0x0101#16, 4) := by decide
theorem test_ld_D_n8 :
    after [0x16, 0x9C] start (fun t => (t.regs.d, t.pc, t.cost)) = some (0x9C#8, 0x0102#16, 8) := by decide
theorem test_ld_H_mHL :
    after [0x66] ((start.setHL 0xC010).store 0xC010 0xD0) (fun t => (t.hl, t.cost)) = some (0xD010#16, 8) := by decide
theorem test_ld_mHL_H : after [0x74] (start.setHL 0xC110) (fun t => (t.read 0xC110, t.cost)) = some (0xC1#8, 8) := by decide
theorem test_ld_mHL_n8 :
    after [0x36, 0x99] (start.setHL 0xC000)
      (fun t => (t.read 0xC000, t.pc, t.cost)) = some (0x99#8, 0x0102#16, 12) := by decide
theorem test_ld_A_mBC :
    after [0x0A] ((start.setBC 0xC200).store 0xC200 0x11) (fun t => (t.regs.a, t.cost)) = some (0x11#8, 8) := by decide
theorem test_ld_mDE_A :
    after [0x12] ((start.setDE 0xC201).setReg8 .a 0x22) (fun t => (t.read 0xC201, t.cost)) = some (0x22#8, 8) := by decide
theorem test_ld_A_mN16 :
    after [0xFA, 0x34, 0xC3] (start.store 0xC334 0x66)
      (fun t => (t.regs.a, t.pc, t.cost)) = some (0x66#8, 0x0103#16, 16) := by decide
theorem test_ld_mN16_A :
    after [0xEA, 0x00, 0xC3] (start.setReg8 .a 0x55)
      (fun t => (t.read 0xC300, t.pc, t.cost)) = some (0x55#8, 0x0103#16, 16) := by decide
theorem test_ldh_A_mN8 :
    after [0xF0, 0x81] (start.store 0xFF81 0x88) (fun t => (t.regs.a, t.cost)) = some (0x88#8, 12) := by decide
theorem test_ldh_mN8_A :
    after [0xE0, 0x80] (start.setReg8 .a 0x77) (fun t => (t.read 0xFF80, t.cost)) = some (0x77#8, 12) := by decide
theorem test_ld_A_mC :
    after [0xF2] ((start.setReg8 .c 0x83).store 0xFF83 0xAA) (fun t => (t.regs.a, t.cost)) = some (0xAA#8, 8) := by decide
theorem test_ld_mC_A :
    after [0xE2] ((start.setReg8 .c 0x82).setReg8 .a 0x99)
      (fun t => (t.read 0xFF82, t.cost)) = some (0x99#8, 8) := by decide
theorem test_ld_mHLinc_A_wraps :
    after [0x22] ((start.setHL 0xFFFF).setReg8 .a 0x1F)
      (fun t => (t.read 0xFFFF, t.hl, t.cost)) = some (0x1F#8, 0x0000#16, 8) := by decide
theorem test_ld_A_mHLdec :
    after [0x3A] ((start.setHL 0xC000).store 0xC000 0x44)
      (fun t => (t.regs.a, t.hl, t.cost)) = some (0x44#8, 0xBFFF#16, 8) := by decide
theorem test_ld_BC_n16 :
    after [0x01, 0x34, 0x12] start (fun t => (t.bc, t.pc, t.cost)) = some (0x1234#16, 0x0103#16, 12) := by decide
theorem test_ld_mN16_SP :
    after [0x08, 0x00, 0xC0] (start.setSP 0xABCD)
      (fun t => (t.read 0xC000, t.read 0xC001, t.cost)) = some (0xCD#8, 0xAB#8, 20) := by decide
theorem test_ld_mN16_SP_wraps :
    after [0x08, 0xFF, 0xFF] (start.setSP 0x1234) (fun t => (t.read 0xFFFF, t.cost)) = some (0x34#8, 20) := by decide
theorem test_ld_SP_HL : after [0xF9] (start.setHL 0xD000) (fun t => (t.sp, t.cost)) = some (0xD000#16, 8) := by decide
theorem test_push_BC :
    after [0xC5] ((start.setBC 0x1234).setSP 0xFFFE)
      (fun t => (t.read 0xFFFD, t.read 0xFFFC, t.sp, t.cost)) = some (0x12#8, 0x34#8, 0xFFFC#16, 16) := by decide
theorem test_push_AF :
    after [0xF5] (((start.setReg8 .a 0x12).setF 0xB0).setSP 0xD000)
      (fun t => (t.read 0xCFFF, t.read 0xCFFE, t.sp, t.cost)) = some (0x12#8, 0xB0#8, 0xCFFE#16, 16) := by decide
theorem test_pop_DE :
    after [0xD1] (((start.setSP 0xFFFC).store 0xFFFC 0x78).store 0xFFFD 0x56)
      (fun t => (t.de, t.sp, t.cost)) = some (0x5678#16, 0xFFFE#16, 12) := by decide
theorem test_pop_AF :
    after [0xF1] (((start.setSP 0xC000).store 0xC000 0xFF).store 0xC001 0x12)
      (fun t => (t.regs.a, t.regs.f, t.sp, t.cost)) = some (0x12#8, 0xF0#8, 0xC002#16, 12) := by decide
theorem test_add_A_B :
    after [0x80] ((start.setReg8 .a 0x3A).setReg8 .b 0xC6)
      (fun t => (t.regs.a, t.regs.f, t.cost)) = some (0x00#8, 0xB0#8, 4) := by decide
theorem test_add_A_B_no_half_carry :
    after [0x80] ((start.setReg8 .a 0x80).setReg8 .b 0x80)
      (fun t => (t.regs.a, t.regs.f, t.cost)) = some (0x00#8, 0x90#8, 4) := by decide
theorem test_add_A_A :
    after [0x87] (start.setReg8 .a 0x88) (fun t => (t.regs.a, t.regs.f)) = some (0x10#8, 0x30#8) := by decide
theorem test_add_A_mHL :
    after [0x86] (((start.setReg8 .a 0x01).setHL 0xC000).store 0xC000 0xFF)
      (fun t => (t.regs.a, t.regs.f, t.cost)) = some (0x00#8, 0xB0#8, 8) := by decide
theorem test_adc_A_B :
    after [0x88] (((start.setReg8 .a 0x0E).setReg8 .b 0x01).setF 0x10)
      (fun t => (t.regs.a, t.regs.f)) = some (0x10#8, 0x20#8) := by decide
theorem test_adc_A_n8 :
    after [0xCE, 0xFF] ((start.setReg8 .a 0x00).setF 0x10)
      (fun t => (t.regs.a, t.regs.f, t.cost)) = some (0x00#8, 0xB0#8, 8) := by decide
theorem test_sub_A_B :
    after [0x90] ((start.setReg8 .a 0x00).setReg8 .b 0x01)
      (fun t => (t.regs.a, t.regs.f)) = some (0xFF#8, 0x70#8) := by decide
theorem test_sbc_A_B :
    after [0x98] (((start.setReg8 .a 0x00).setReg8 .b 0xFF).setF 0x10)
      (fun t => (t.regs.a, t.regs.f)) = some (0x00#8, 0xF0#8) := by decide
theorem test_sbc_A_n8 :
    after [0xDE, 0x00] ((start.setReg8 .a 0x00).setF 0x10)
      (fun t => (t.regs.a, t.regs.f, t.cost)) = some (0xFF#8, 0x70#8, 8) := by decide
theorem test_and_A_B :
    after [0xA0] ((start.setReg8 .a 0xF0).setReg8 .b 0x0F)
      (fun t => (t.regs.a, t.regs.f)) = some (0x00#8, 0xA0#8) := by decide
theorem test_xor_A_A :
    after [0xAF] ((start.setReg8 .a 0x5A).setF 0x70) (fun t => (t.regs.a, t.regs.f)) = some (0x00#8, 0x80#8) := by decide
theorem test_or_A_n8 :
    after [0xF6, 0x81] (start.setReg8 .a 0x10)
      (fun t => (t.regs.a, t.regs.f, t.cost)) = some (0x91#8, 0x00#8, 8) := by decide
theorem test_cp_A_n8 :
    after [0xFE, 0x40] (start.setReg8 .a 0x3C)
      (fun t => (t.regs.a, t.regs.f, t.cost)) = some (0x3C#8, 0x50#8, 8) := by decide
theorem test_cp_A_mHL :
    after [0xBE] (((start.setReg8 .a 0x00).setHL 0xC000).store 0xC000 0x01)
      (fun t => (t.regs.a, t.regs.f, t.cost)) = some (0x00#8, 0x70#8, 8) := by decide
theorem test_inc_B :
    after [0x04] ((start.setReg8 .b 0xFF).setF 0x10)
      (fun t => (t.regs.b, t.regs.f, t.cost)) = some (0x00#8, 0xB0#8, 4) := by decide
theorem test_inc_mHL :
    after [0x34] ((start.setHL 0xC000).store 0xC000 0x7F)
      (fun t => (t.read 0xC000, t.regs.f, t.cost)) = some (0x80#8, 0x20#8, 12) := by decide
theorem test_dec_B :
    after [0x05] (start.setReg8 .b 0x10) (fun t => (t.regs.b, t.regs.f)) = some (0x0F#8, 0x60#8) := by decide
theorem test_dec_mHL :
    after [0x35] ((start.setHL 0xC000).store 0xC000 0x00)
      (fun t => (t.read 0xC000, t.regs.f, t.cost)) = some (0xFF#8, 0x60#8, 12) := by decide
theorem test_daa_adds :
    after [0x27] ((start.setReg8 .a 0x9A).setF 0x00)
      (fun t => (t.regs.a, t.regs.f, t.cost)) = some (0x00#8, 0x90#8, 4) := by decide
theorem test_daa_subtracts :
    after [0x27] ((start.setReg8 .a 0xFF).setF 0x70) (fun t => (t.regs.a, t.regs.f)) = some (0x99#8, 0x50#8) := by decide
theorem test_cpl :
    after [0x2F] (start.setReg8 .a 0x35) (fun t => (t.regs.a, t.regs.f, t.cost)) = some (0xCA#8, 0x60#8, 4) := by decide
theorem test_scf : after [0x37] (start.setF 0xE0) (fun t => (t.regs.f)) = some (0x90#8) := by decide
theorem test_ccf : after [0x3F] (start.setF 0xF0) (fun t => (t.regs.f)) = some (0x80#8) := by decide
theorem test_add_HL_BC :
    after [0x09] (((start.setHL 0x8A23).setBC 0x0605).setF 0x80)
      (fun t => (t.hl, t.regs.f, t.cost)) = some (0x9028#16, 0xA0#8, 8) := by decide
theorem test_add_HL_SP :
    after [0x39] (((start.setHL 0xFFFF).setSP 0x0001).setF 0x40)
      (fun t => (t.hl, t.regs.f, t.cost)) = some (0x0000#16, 0x30#8, 8) := by decide
theorem test_inc_BC :
    after [0x03] ((start.setBC 0xFFFF).setF 0xF0)
      (fun t => (t.bc, t.regs.f, t.cost)) = some (0x0000#16, 0xF0#8, 8) := by decide
theorem test_dec_DE :
    after [0x1B] (start.setDE 0x0000) (fun t => (t.de, t.regs.f, t.cost)) = some (0xFFFF#16, 0x00#8, 8) := by decide
theorem test_add_SP_e8 :
    after [0xE8, 0xFF] (start.setSP 0x0001) (fun t => (t.sp, t.regs.f, t.cost)) = some (0x0000#16, 0x30#8, 16) := by decide
theorem test_add_SP_e8_low_byte_flags :
    after [0xE8, 0x01] ((start.setSP 0x00FF).setF 0xC0)
      (fun t => (t.sp, t.regs.f, t.cost)) = some (0x0100#16, 0x30#8, 16) := by decide
theorem test_ld_HL_SPe8 :
    after [0xF8, 0x80] (start.setSP 0xC080)
      (fun t => (t.hl, t.sp, t.regs.f, t.cost)) = some (0xC000#16, 0xC080#16, 0x10#8, 12) := by decide
theorem test_rlca :
    after [0x07] (start.setReg8 .a 0x85) (fun t => (t.regs.a, t.regs.f, t.cost)) = some (0x0B#8, 0x10#8, 4) := by decide
theorem test_rlca_clears_Z :
    after [0x07] ((start.setReg8 .a 0x00).setF 0x80) (fun t => (t.regs.a, t.regs.f)) = some (0x00#8, 0x00#8) := by decide
theorem test_rrca :
    after [0x0F] (start.setReg8 .a 0x01) (fun t => (t.regs.a, t.regs.f)) = some (0x80#8, 0x10#8) := by decide
theorem test_rla : after [0x17] (start.setReg8 .a 0x80) (fun t => (t.regs.a, t.regs.f)) = some (0x00#8, 0x10#8) := by decide
theorem test_rra : after [0x1F] (start.setReg8 .a 0x01) (fun t => (t.regs.a, t.regs.f)) = some (0x00#8, 0x10#8) := by decide
theorem test_rlc_B :
    after [0xCB, 0x00] (start.setReg8 .b 0x85)
      (fun t => (t.regs.b, t.regs.f, t.pc, t.cost)) = some (0x0B#8, 0x10#8, 0x0102#16, 8) := by decide
theorem test_rlc_mHL :
    after [0xCB, 0x06] ((start.setHL 0xC000).store 0xC000 0x80)
      (fun t => (t.read 0xC000, t.regs.f, t.cost)) = some (0x01#8, 0x10#8, 16) := by decide
theorem test_rrc_C :
    after [0xCB, 0x09] (start.setReg8 .c 0x01) (fun t => (t.regs.c, t.regs.f)) = some (0x80#8, 0x10#8) := by decide
theorem test_rl_D :
    after [0xCB, 0x12] ((start.setReg8 .d 0x11).setF 0x10)
      (fun t => (t.regs.d, t.regs.f)) = some (0x23#8, 0x00#8) := by decide
theorem test_rr_E :
    after [0xCB, 0x1B] ((start.setReg8 .e 0x8A).setF 0x10)
      (fun t => (t.regs.e, t.regs.f)) = some (0xC5#8, 0x00#8) := by decide
theorem test_sla_H :
    after [0xCB, 0x24] (start.setReg8 .h 0xFF) (fun t => (t.regs.h, t.regs.f)) = some (0xFE#8, 0x10#8) := by decide
theorem test_sra_L :
    after [0xCB, 0x2D] (start.setReg8 .l 0x8A) (fun t => (t.regs.l, t.regs.f)) = some (0xC5#8, 0x00#8) := by decide
theorem test_swap_A :
    after [0xCB, 0x37] ((start.setReg8 .a 0xF1).setF 0xF0)
      (fun t => (t.regs.a, t.regs.f)) = some (0x1F#8, 0x00#8) := by decide
theorem test_srl_mHL :
    after [0xCB, 0x3E] ((start.setHL 0xC000).store 0xC000 0xFF)
      (fun t => (t.read 0xC000, t.regs.f, t.cost)) = some (0x7F#8, 0x10#8, 16) := by decide
theorem test_bit_7_H :
    after [0xCB, 0x7C] ((start.setReg8 .h 0x80).setF 0x10)
      (fun t => (t.regs.h, t.regs.f, t.cost)) = some (0x80#8, 0x30#8, 8) := by decide
theorem test_bit_0_mHL :
    after [0xCB, 0x46] (((start.setHL 0xC000).store 0xC000 0xFE).setF 0x50)
      (fun t => (t.regs.f, t.read 0xC000, t.cost)) = some (0xB0#8, 0xFE#8, 12) := by decide
theorem test_res_3_A :
    after [0xCB, 0x9F] ((start.setReg8 .a 0xFF).setF 0xB0)
      (fun t => (t.regs.a, t.regs.f, t.cost)) = some (0xF7#8, 0xB0#8, 8) := by decide
theorem test_set_7_mHL :
    after [0xCB, 0xFE] ((start.setHL 0xC000).store 0xC000 0x01)
      (fun t => (t.read 0xC000, t.regs.f, t.cost)) = some (0x81#8, 0x00#8, 16) := by decide
theorem test_jp_n16 : after [0xC3, 0x50, 0x01] start (fun t => (t.pc, t.cost)) = some (0x0150#16, 16) := by decide
theorem test_jp_NZ_not_taken :
    after [0xC2, 0x00, 0x02] (start.setF 0x80) (fun t => (t.pc, t.cost)) = some (0x0103#16, 12) := by decide
theorem test_jp_HL : after [0xE9] (start.setHL 0xC000) (fun t => (t.pc, t.cost)) = some (0xC000#16, 4) := by decide
theorem test_jr_back_128 : after [0x18, 0x80] start (fun t => (t.pc, t.cost)) = some (0x0082#16, 12) := by decide
theorem test_jr_Z_taken : after [0x28, 0x10] (start.setF 0x80) (fun t => (t.pc, t.cost)) = some (0x0112#16, 12) := by decide
theorem test_jr_Z_not_taken : after [0x28, 0x10] start (fun t => (t.pc, t.cost)) = some (0x0102#16, 8) := by decide
theorem test_call_n16 :
    after [0xCD, 0x00, 0x20] (start.setSP 0xFFFE)
      (fun t => (t.read 0xFFFD, t.read 0xFFFC, t.sp, t.pc, t.cost)) = some (0x01#8, 0x03#8, 0xFFFC#16, 0x2000#16, 24) := by decide
theorem test_call_Z_not_taken :
    after [0xCC, 0x00, 0x20] (start.setSP 0xFFFE)
      (fun t => (t.pc, t.sp, t.cost)) = some (0x0103#16, 0xFFFE#16, 12) := by decide
theorem test_ret :
    after [0xC9] (((start.setSP 0xFFFC).store 0xFFFC 0x03).store 0xFFFD 0x01)
      (fun t => (t.pc, t.sp, t.cost)) = some (0x0103#16, 0xFFFE#16, 16) := by decide
theorem test_ret_NZ_taken :
    after [0xC0] (((start.setSP 0xFFFC).store 0xFFFC 0x34).store 0xFFFD 0x12)
      (fun t => (t.pc, t.sp, t.cost)) = some (0x1234#16, 0xFFFE#16, 20) := by decide
theorem test_reti :
    after [0xD9] (((start.setSP 0xFFFC).store 0xFFFC 0x00).store 0xFFFD 0x02)
      (fun t => (t.pc, t.sp, t.ime, t.cost)) = some (0x0200#16, 0xFFFE#16, true, 16) := by decide
theorem test_rst_08 :
    after [0xCF] (start.setSP 0xD000)
      (fun t => (t.read 0xCFFF, t.read 0xCFFE, t.sp, t.pc, t.cost)) = some (0x01#8, 0x01#8, 0xCFFE#16, 0x0008#16, 16) := by decide
theorem test_di :
    after [0xF3] { start with ime := true } (fun t => (t.ime, t.imePending, t.cost)) = some (false, false, 4) := by decide
theorem test_ei : after [0xFB] start (fun t => (t.ime, t.imePending, t.cost)) = some (false, true, 4) := by decide
theorem test_halt : after [0x76] start (fun t => (t.halted, t.pc, t.cost)) = some (true, 0x0101#16, 4) := by decide

/-! ## System instructions and fatal conditions (part 2.6) -/

theorem test_stop_armed :
    after [0x10, 0x00] { startCgb with pc := 0x0150, mmu := { startCgb.mmu with key1Armed := true } }
      (fun t => (t.mmu.doubleSpeed, t.read 0xFF4D, t.pc, t.cost)) = some (true, 0xFE, 0x0152, 4) := by decide
theorem test_stop_dmg : after [0x10, 0x00] start (fun t => t.fault) = some (some (.f6StopOnDmg 0x0100)) := by decide
theorem test_illegal :
    after [0xDD] { start with pc := 0x0200 } (fun t => (t.fault, t.pc)) = some (some (.f1UndefinedOpcode 0xDD 0x0200), 0x0201) := by
  decide
theorem test_cb_dispatch :
    (match exec .cb_prefix ((start.setReg8 .b 0xF0).store 0x0100 0) with | .next t => t.pc | _ => 0) = 0x0101 := by decide
theorem test_halted_tick :
    (match State.stepCycles { start with halted := true } with | .next t => some (t.halted, t.pc, t.cost) | _ => none)
      = some (true, 0x0100, 4) := by decide
theorem test_ei_delay :
    after [0x00] { start with imePending := true, mmu := { start.mmu with intEnable := 1, intFlag := 1 } }
      (fun t => (t.ime, t.imePending, t.pc, t.cost)) = some (true, false, 0x0101, 4) := by decide

/-! ## Interrupts (part 2.7, part 1.6) -/

/-- `start` at PC 0x0158 with IME, IE and IF given. -/
def interrupted (halted : Bool) (ie : Byte) (f : BitVec 5) : State :=
  { start with pc := 0x0158, ime := true, halted, mmu := { start.mmu with intEnable := ie, intFlag := f } }

theorem test_vblank_before_timer :
    after [] (interrupted false 5 5) (fun t => (t.pc, t.sp, t.ime, t.read 0xFF0F, t.cost))
      = some (0x0040, 0xFFFC, false, 0xE4, 20) := by decide
theorem test_dispatch_pushes_pc :
    after [] (interrupted false 5 5) (fun t => (t.read 0xFFFD, t.read 0xFFFC)) = some (0x01, 0x58) := by decide
theorem test_timer_from_halt :
    after [] (interrupted true 4 4) (fun t => (t.pc, t.halted, t.cost)) = some (0x0050, false, 24) := by decide
theorem test_priority_among_three :
    after [] (interrupted false 0x1F 0x1C) (fun t => (t.pc, t.mmu.intFlag)) = some (0x0050, 0x18) := by decide
theorem test_masked : after [0x00] (interrupted false 0 0x1F) (fun t => (t.pc, t.cost)) = some (0x0159, 4) := by decide
theorem test_wake_without_dispatch :
    after [] { interrupted true 1 1 with ime := false } (fun t => (t.halted, t.pc, t.mmu.intFlag, t.cost))
      = some (false, 0x0158, 1, 4) := by decide

/-! ## Timer (part 2.8): DIV, TIMA, TMA, TAC, div_acc, tima_acc, request -/

theorem test_timer_example :
    Timer.step ⟨0, 0xFE, 0x80, 5, 250, 0, false⟩ 24 = ⟨1, 0xFF, 0x80, 5, 18, 8, false⟩ ∧
      Timer.step ⟨1, 0xFF, 0x80, 5, 18, 8, false⟩ 8 = ⟨1, 0x80, 0x80, 5, 26, 0, true⟩ := by decide
theorem test_timer_double_overflow : Timer.step ⟨0, 0xFF, 0xFF, 5, 0, 12, false⟩ 24 = ⟨0, 0xFF, 0xFF, 5, 24, 4, true⟩ := by decide
theorem test_timer_disabled : Timer.step ⟨0, 0x10, 0, 1, 250, 10, false⟩ 8 = ⟨1, 0x10, 0, 1, 2, 10, false⟩ := by decide
theorem test_div_wraps : Timer.step ⟨0xFF, 0, 0, 0, 255, 0, false⟩ 4 = ⟨0, 0, 0, 0, 3, 0, false⟩ := by decide

/-! ## Video controller (part 2.9) -/

/-- The controller with the LCD on. -/
def lcd (ly : Byte) (cycles : Nat) (mode : LcdMode) : Video := { Video.reset with lcdc := 0x80, ly, lineCycles := cycles, mode }

/-- LY, cycle, STAT, the two requests. -/
def videoView (p : Video × List HostOutput) : Byte × Nat × Byte × Bool × Bool :=
  (p.1.ly, p.1.lineCycles, p.1.statByte, p.1.pendingVblank, p.1.pendingStat)

theorem test_transfer_to_hblank :
    videoView (Video.step { lcd 0 248 .transfer with statEnable := 1 } false Config.default.dmgShades 8)
      = (0, 256, 0x88, false, true) := by decide
theorem test_next_line_coincidence :
    videoView (Video.step { lcd 4 452 .hblank with lyc := 5, statEnable := 8 } false Config.default.dmgShades 4)
      = (5, 0, 0xC6, false, true) := by decide
theorem test_vblank_entry :
    videoView (Video.step { lcd 143 440 .hblank with lyc := 144, statEnable := 2 } false Config.default.dmgShades 20)
      = (144, 4, 0x95, true, true) := by decide
theorem test_frame_wraps :
    videoView (Video.step (lcd 153 452 .vblank) false Config.default.dmgShades 4) = (0, 0, 0x86, false, false) := by decide
theorem test_lcd_switched_off :
    (Video.writeLcdc { lcd 77 300 .hblank with lcdc := 0x91 } 0x11).ly = 0 ∧
      (Video.writeLcdc { lcd 77 300 .hblank with lcdc := 0x91 } 0x11).lineCycles = 0 := by decide

/-- OAM entries 0 to 11 at Y = 16, the others at Y = 0. -/
def twelveSprites : Video := { lcd 0 0 .oamSearch with oam := (List.range 12).map fun k => (4 * k, 16) }

theorem test_sprite_scan_takes_ten : twelveSprites.spriteScan 0 = List.range 10 ∧ twelveSprites.spriteScan 8 = [] := by decide
theorem test_sprite_scan_tall : Video.spriteScan { twelveSprites with lcdc := 0x84 } 8 = List.range 10 := by decide

/-- Tile 1 row 0 = 3C, 7E (part 1.4). -/
def tileVideo : Video := { lcd 0 80 .oamSearch with vram := [(0x10, 0x3C), (0x11, 0x7E)], lcdc := 0x93, bgp := 0xE4, obp0 := 0xE4,
                                                    oam := [(0, 16), (1, 8), (2, 1)], sprites := [0] }

theorem test_tile_decode : (List.range 8).map (fun n => tileVideo.tilePixel 0 1 n 0) = [0, 2, 3, 3, 3, 3, 2, 0] := by decide
theorem test_sprite_pixels :
    (List.range 8).map (tileVideo.pixelColour false Config.default.dmgShades)
      = [0, 2, 3, 3, 3, 3, 2, 0].map (shadeColour Config.default.dmgShades) := by decide
/-- R655's lines by hand: rows 20, -1 and, mirrored, 15 - 20 = -5 of a tall sprite of tile 2 are row 4 of tile 3, and rows 7
and 3 of tile 2. -/
theorem test_tall_sprite_rows :
    (let v (ly y attr : Byte) (k : Nat) : Video :=
       { lcd ly.toNat 80 .oamSearch with ly, lcdc := 0x96, sprites := [0], oam := [(0, y), (1, 8), (2, 2), (3, attr)], vram := [(k, 0x80)] }
     [(v 20 16 0 0x38).spriteIndex false 0 0, (v 0 17 0 0x2E).spriteIndex false 0 0, (v 20 16 0x40 0x26).spriteIndex false 0 0])
      = [1, 1, 1] := by decide
theorem test_cgb_colours :
    [cgbColour [(0, 0x1F)] 0 0, cgbColour [(0, 0xE0), (1, 0x03)] 0 0, cgbColour [(1, 0x7C)] 0 0, cgbColour [(0, 0x10), (1, 0x42)] 0 0]
      = [⟨255, 0, 0⟩, ⟨0, 255, 0⟩, ⟨0, 0, 255⟩, ⟨132, 132, 132⟩] := by decide

/-! ## DMA, joypad, memory, banks (parts 2.10-2.13, 1.5, 1.7) -/

/-- Work RAM byte 0xC000 + k holds k + 1, for k below 4. -/
def ramp : State := { start with mmu := { start.mmu with wram := [(0, 1), (1, 2), (2, 3), (3, 4)] } }

theorem test_oam_dma_copies_three :
    (Mmu.oamDmaStep (ramp.store 0xFF46 0xC0).mmu Config.default 12).video.oam = [(0, 1), (1, 2), (2, 3)] := by decide
theorem test_vram_dma :
    (let s := { ramp with mmu := { ramp.mmu with cgb := true, hdma := ⟨0xC0, 0x05, 0x81, 0x07, false, 0, 0, 0⟩ } }
     ((s.store 0xFF55 0x01).mmu.hdma.len, (Mmu.hdmaStep (s.store 0xFF55 0x00).mmu Config.default).video.vram, s.read 0xFF55))
      = (32, [(0x100, 1), (0x101, 2), (0x102, 3), (0x103, 4)], 0xFF) := by decide
theorem test_hblank_dma_fatal :
    after [0xE0, 0x55] (startCgb.setReg8 .a 0x81) (fun t => t.fault) = some (some (.f5HblankDma 0x81)) := by decide
theorem test_hdma5_is_storage_in_dmg_mode :
    after [0xE0, 0x55] (start.setReg8 .a 0x81) (fun t => (t.fault, t.read 0xFF55)) = some (none, 0x81) := by decide

/-- Left and Start pressed. -/
def pressed : Joypad := [KeyEvent.press .left, .press .start].foldl Joypad.event Joypad.reset

theorem test_joypad_reads :
    [Joypad.reset.p1Byte, Joypad.p1Byte { pressed with sel := 2, start := false }, Joypad.p1Byte { pressed with sel := 1 },
      Joypad.p1Byte { pressed with sel := 0 }, Joypad.p1Byte { pressed with sel := 3 }] = [0xCF, 0xED, 0xD7, 0xC5, 0xFF] := by decide

theorem test_echo : ((start.store 0xC123 0x5A).read 0xE123, (start.store 0xFDFF 0x11).read 0xDDFF) = (0x5A, 0x11) := by decide
theorem test_unusable_range : ((start.store 0xFEA5 0).read 0xFEA5, start.store 0xFEA5 0) = (0xFF, start) := by decide
theorem test_blocked_vram :
    (let s := { start with mmu := { start.mmu with video := lcd 0 80 .transfer } }
     (s.read 0x8000, (s.store 0x8000 0x12).mmu.video.vram)) = (0xFF, [(0, 0x12)]) := by decide
theorem test_boot_overlay_ends :
    (let s := { start with mmu := { start.mmu with bootMode := true, bootRom := [(0, 0x31)],
                                                   cart := { Cartridge.blank with rom := [(0, 0xC3)] } } }
     (s.read 0, (s.store 0xFF50 1).read 0, (s.store 0xFF50 1).mmu.bootMode)) = (0x31, 0xC3, false) := by decide

/-- A cartridge with the selectors of a variant, its bank k marked by its number at offset 0 for k below 4. -/
def banked (m : Mapper) (nRom nRam : Nat) : Cartridge :=
  { rom := (List.range 3).map fun k => ((k + 1) * 0x4000, BitVec.ofNat 8 (k + 1)), ram := [], nRom, nRam, sRam := 0x2000, mapper := m }

/-- The ROM bank that 0x4000 shows after control writes. -/
def bankAfter (c : Cartridge) (writes : List (Nat × Byte)) : Nat :=
  Cartridge.romIndex { c with mapper := writes.foldl (fun m w => m.control true w.1 w.2) c.mapper } 0x4000 / 0x4000

theorem test_variantA_banks :
    [bankAfter (banked (Mapper.initial .variantA) 64 4) [(0x2000, 0)], bankAfter (banked (Mapper.initial .variantA) 64 4) [(0x2000, 0x40)],
     bankAfter (banked (Mapper.initial .variantA) 64 4) [(0x2000, 0x1F), (0x4000, 1)],
     bankAfter (banked (Mapper.initial .variantA) 4 4) [(0x2000, 7)],
     bankAfter (banked (Mapper.initial .variantA) 64 4) [(0x6000, 1), (0x4000, 2), (0x2000, 0x1F)]] = [1, 1, 63, 3, 31] := by decide
theorem test_variantB_banks :
    [bankAfter (banked (Mapper.initial .variantB) 128 4) [(0x2000, 0)], bankAfter (banked (Mapper.initial .variantB) 128 4) [(0x2000, 0x85)]]
      = [1, 5] := by decide
theorem test_variantC_banks :
    [bankAfter (banked (Mapper.initial .variantC) 512 4) [(0x2000, 5), (0x3000, 0xFF)],
     bankAfter (banked (Mapper.initial .variantC) 512 4) [(0x2000, 0), (0x3000, 0)],
     bankAfter (banked (Mapper.initial .variantC) 256 4) [(0x2000, 5), (0x3000, 1)]] = [261, 0, 5] := by decide
theorem test_ram_enable :
    (Cartridge.ramIndex (banked (Mapper.initial .variantA) 4 4) 0,
     Cartridge.ramIndex { banked ((Mapper.initial .variantA).control true 0 0x1A) 4 1 with sRam := 0x800 } 0x800) = (none, some 0) := by
  decide

/-! ## Load and power-on (parts 2.13, 2.14) -/

/-- An image of a size with header bytes. -/
def image (size : Nat) (header : List (Nat × Byte)) : Image := ⟨size, header⟩

/-- The fatal condition of a load without boot ROM or save, if any. -/
def loadFault (c : Image) : Option Fault :=
  match load Config.default c ⟨0, []⟩ none InitialRam.zero with
  | .fault f => some f
  | _ => none

theorem test_load_checks :
    [loadFault (image 0x14F []), loadFault (image 0x8000 [(0x147, 5)]), loadFault (image 0x8000 [(0x148, 9)]),
     loadFault (image 0x8000 [(0x147, 1), (0x149, 6)]), loadFault (image 0x8000 [(0x149, 6)]), loadFault (image 0x8000 [(0x148, 1)]),
     loadFault (image 0x400000 [(0x147, 1), (0x148, 7)]), loadFault (image 0x10000 [(0x148, 1)])]
      = [some (.f8ImageLength 0x14F), some (.f3ControllerType 5), some (.f7SizeCode 9), some (.f7SizeCode 6), none,
         some (.f8ImageLength 0x8000), some (.f4BankCount .variantA 256 0), some (.f4BankCount .noBank 4 1)] := by decide
theorem test_load_cgb :
    (match load Config.default (image 0x20000 [(0x143, 0x80), (0x147, 0x19), (0x148, 2), (0x149, 3)]) ⟨0, []⟩ none InitialRam.zero with
     | .next s => some (s.mmu.cgb, s.mmu.cart.mapper, s.mmu.cart.nRom, s.mmu.cart.nRam)
     | _ => none) = some (true, .variantC false 1 0 0, 8, 4) := by decide
theorem test_post_boot_registers :
    (match load Config.default (image 0x8000 []) ⟨0, []⟩ none InitialRam.zero with
     | .next s => some (s.pc, s.sp, s.regs.a, s.regs.f, s.read 0xFF0F, s.read 0xFF40, s.read 0xFF41)
     | _ => none) = some (0x0100, 0xFFFE, 0x01, 0xB0, 0xE1, 0x91, 0x86) := by decide

/-! ## Witnesses: states and operands that meet the hypotheses of each statement, at the edges of its clauses -/

theorem witness_LoadToRegister :
    (0x40, .ld_B_B, .b, .b) ∈ rowsLdRegReg ∧ (0x7F, .ld_A_A, .a, .a) ∈ rowsLdRegReg ∧ (0x3E, .ld_A_n8 0xFF, .a) ∈ rowsLdRegImm 0xFF ∧
      (0x66, .ld_H_mHL, .h) ∈ rowsLdRegMem := by decide
theorem witness_LoadAccumulator :
    (0x0A#8, Instr.ld_A_mBC, State.bc, 8) ∈
      [(0x0A, .ld_A_mBC, State.bc, 8), (0x1A, .ld_A_mDE, State.de, 8), (0xF2, .ld_A_mC, fun s => 0xFF00 + s.regs.c.setWidth 16, 8)] :=
  .head _
theorem witness_StoreByte :
    (0x70, Instr.ld_mHL_B, State.hl, (fun s : State => s.regs.b), 8) ∈ rowsStore 0 0 ∧
      (start.setHL 0xC000).storesFatal [(0xC000, 0)] = false ∧ (start.setHL 0xC000).mmu.holds 0xC000 = true ∧
      startCgb.storesFatal [(0xFF55, 0x7F)] = false ∧ start.storesFatal [(0xFF55, 0x80)] = false ∧ start.mmu.holds 0xFFFF = true :=
  ⟨.head _, by decide⟩
theorem witness_LoadStoreStepHL :
    (start.setHL 0xFFFF).storesFatal [(0xFFFF, start.regs.a)] = false ∧ (start.setHL 0xFFFF).mmu.holds (start.setHL 0xFFFF).hl = true := by
  decide
theorem witness_LoadPair :
    (0x01, .ld_BC_n16 0xFFFF, .bc) ∈ rowsLdPairImm (word16 0xFF 0xFF) ∧ (0x31, .ld_SP_n16 0, .sp) ∈ rowsLdPairImm (word16 0 0) := by
  decide
theorem witness_StoreStackPointer :
    State.storesFatal [(0xFFFF, start.sp.setWidth 8), (0x0000, (start.sp >>> 8).setWidth 8)] start = false ∧
      State.storesFatal [(0xC000, start.sp.setWidth 8), (0xC001, (start.sp >>> 8).setWidth 8)] startCgb = false := by decide
theorem witness_PushWord :
    (0xF5, .push_AF, .af) ∈ rowsPush ∧ State.storesFatal (pushStores 0x0000 0x1234) { start with sp := 0 } = false ∧
      State.storesFatal (pushStores start.sp 0xFFFF) startCgb = false := by decide
theorem witness_PopWord :
    (0xF1, .pop_AF, .af) ∈ rowsPop ∧ (0xC1, .pop_BC, .bc) ∈ rowsPop ∧ (0xD1, .pop_DE, .de) ∈ rowsPop ∧ (0xE1, .pop_HL, .hl) ∈ rowsPop := by
  decide

/-- `start` meets the invariant. -/
theorem witness_start_inv : start.Inv := by
  refine ⟨by unfold Regs.inv; decide, ⟨⟨trivial, ⟨rfl, rfl⟩, ⟨rfl, rfl⟩, by decide, by decide, fun _ => rfl⟩, ⟨by decide, by decide⟩,
    ⟨?_, ?_, rfl, rfl, ⟨rfl, rfl⟩, ⟨rfl, rfl⟩, ⟨rfl, rfl⟩, ⟨rfl, rfl⟩⟩, ?_, ?_, rfl, ⟨rfl, rfl⟩, ⟨rfl, rfl⟩, ⟨rfl, rfl⟩⟩,
    fun _ => ⟨rfl, rfl, rfl, rfl, ?_⟩⟩
  · exact ⟨rfl, rfl, rfl⟩
  · exact ⟨by decide, .nil, by intro k hk; cases hk⟩
  · exact ⟨by decide, by intro h; cases h⟩
  · intro _; exact ⟨rfl, rfl, rfl, rfl, rfl, rfl, rfl⟩
  · intro h; cases h

theorem witness_PushPopRoundTrip :
    (0xC5, .push_BC, .bc) ∈ rowsPush ∧ (0xD1, .pop_DE, .de) ∈ rowsPop ∧ (0xF5, .push_AF, .af) ∈ rowsPush ∧
      (0xF1, .pop_AF, .af) ∈ rowsPop ∧ start.Inv ∧ start.mmu.holds (start.sp - 1) = true ∧ start.mmu.holds (start.sp - 2) = true :=
  ⟨by decide, by decide, by decide, by decide, witness_start_inv, by decide, by decide⟩
theorem witness_AddToAccumulator : (0x80, .add_A_B, .reg .b) ∈ rowsAdd 0 ∧ (0xCE, .adc_A_n8 0xFF, .imm 0xFF) ∈ rowsAdc 0xFF := by decide
theorem witness_SubtractAndCompare :
    (0x97, .sub_A_A, .reg .a) ∈ rowsSub 0 ∧ (0x9E, .sbc_A_mHL, .memHL) ∈ rowsSbc 0 ∧ (0xFE, .cp_A_n8 1, .imm 1) ∈ rowsCp 1 := by decide
theorem witness_LogicOnAccumulator :
    (0xA0, .and_A_B, .reg .b) ∈ rowsAnd 0 ∧ (0xAF, .xor_A_A, .reg .a) ∈ rowsXor 0 ∧ (0xF6, .or_A_n8 1, .imm 1) ∈ rowsOr 1 := by decide
theorem witness_IncrementByte :
    (0x04, .inc_B, .reg .b) ∈ rowsInc8 ∧ (0x35, .dec_mHL, .memHL) ∈ rowsDec8 ∧
      start.storesFatal (start.placeStores (.reg .b) 1) = false ∧
      State.storesFatal (State.placeStores (startCgb.setHL 0xFF55) .memHL 0x7F) (startCgb.setHL 0xFF55) = false := by decide
theorem witness_DecimalArithmetic :
    (start.setReg8 .a 0x99).regs.a.toNat = 99 / 10 * 16 + 99 % 10 ∧ (start.setReg8 .b 0x90).regs.b.toNat = 90 / 10 * 16 + 90 % 10 := by
  decide
theorem witness_PairArithmetic :
    (0x39, .add_HL_SP, .sp) ∈ rowsAddHL ∧ (0x03, .inc_BC, .bc) ∈ rowsIncPair ∧ (0x3B, .dec_SP, .sp) ∈ rowsDecPair := by decide
theorem witness_RotateAccumulator :
    (0x1F#8, Instr.rra, 3) ∈ [(0x07, .rlca, 0), (0x0F, .rrca, 1), (0x17, .rla, 2), (0x1F, .rra, 3)] := by decide
theorem witness_ShiftOperand :
    (0x3F, .srl_A, 7, .reg .a) ∈ rowsShift ∧ (0x06, .rlc_mHL, 0, .memHL) ∈ rowsShift ∧
      State.storesFatal (State.placeStores (start.setHL 0xC000) .memHL 1) (start.setHL 0xC000) = false := by decide
theorem witness_TestBit : (0x40, .bit_0_B, 0, .reg .b) ∈ rowsBit ∧ (0x7E, .bit_7_mHL, 7, .memHL) ∈ rowsBit := by decide
theorem witness_ResetAndSetBit :
    (0xBF, .res_7_A, 7, .reg .a) ∈ rowsRes ∧ (0xC6, .set_0_mHL, 0, .memHL) ∈ rowsSet ∧
      (∀ k < 8, (0x7F#8).getLsbD k = if k = 7 then false else ((start.setReg8 .a 0xFF).readPlace (.reg .a)).getLsbD k) ∧
      (∀ k < 8, (0x01#8).getLsbD k = if k = 0 then true else ((start.setHL 0xC000).readPlace .memHL).getLsbD k) ∧
      State.storesFatal (State.placeStores (start.setHL 0xC000) .memHL 1) (start.setHL 0xC000) = false := by decide
theorem witness_Jumps :
    (0xDA, .jp_C_n16 0xFFFF, .c) ∈ rowsJpIf 0xFFFF ∧ (0x20, .jr_NZ_e8 0x80, .nz) ∈ rowsJrIf 0x80 ∧
      start.cond .nz = true ∧ start.cond .c = false := by decide
theorem witness_CallsAndRestarts :
    (0xC4, .call_NZ_n16 0x2000, .nz) ∈ rowsCallIf 0x2000 ∧ start.cond .nz = true ∧ start.cond .z = false ∧
      (0xFF, .rst_38, 0x38) ∈ rowsRst ∧ State.storesFatal (pushStores start.sp start.pc) start = false := by decide
theorem witness_Returns : (0xC0, .ret_NZ, .nz) ∈ rowsRetIf ∧ start.cond .nz = true ∧ (0xD8, .ret_C, .c) ∈ rowsRetIf := by decide
theorem witness_CallReturnRoundTrip :
    (0xC7, .rst_00, 0) ∈ rowsRst ∧ start.Inv ∧ start.mmu.holds (start.sp - 1) = true ∧ start.mmu.holds (start.sp - 2) = true :=
  ⟨by decide, witness_start_inv, by decide, by decide⟩
theorem witness_NopHaltDiEi : (Instr.ei, { start with imePending := true, cost := 4 }) ∈
    [(Instr.di, { start with ime := false, imePending := false, cost := 4 }), (.ei, { start with imePending := true, cost := 4 })] := by
  decide
theorem witness_EnableTakesOneInstruction :
    (let s := { start with imePending := true, mmu := { start.mmu with intEnable := 1, intFlag := 1 } }
     s.fault = none ∧ s.halted = false ∧ s.pc ∉ s.config.breakpoints ∧ s.ime = false ∧ s.mmu.readySource = some .vblank) ∧
    (let s := { start with imePending := true, ime := true }
     s.mmu.readySource = none) := by decide
theorem witness_StopInstruction :
    start.mmu.cgb = false ∧ startCgb.mmu.cgb = true ∧ startCgb.mmu.key1Armed = false ∧
      (startCgb.store 0xFF4D 1).mmu.cgb = true ∧ (startCgb.store 0xFF4D 1).mmu.key1Armed = true := by decide
theorem witness_IllegalOpcodes : (0xD3, .illegal_D3) ∈ rowsIllegal ∧ (0xFD, .illegal_FD) ∈ rowsIllegal := by decide
theorem witness_EveryInstructionAnswers :
    (match exec .nop start with | .next t => t.fault | _ => none) = none ∧
      (match exec .illegal_D3 start with | .next t => t.fault | _ => none) = some (.f1UndefinedOpcode 0xD3 0x00FF) ∧
      (match exec .stop start with | .next t => t.fault | _ => none) = some (.f6StopOnDmg 0x00FF) ∧
      (match exec .ld_mHL_B ((startCgb.setHL 0xFF55).setReg8 .b 0xFF) with | .next t => t.fault | _ => none)
        = some (.f5HblankDma 0xFF) ∧ start.fault = none := by decide
theorem witness_FatalStores :
    (startCgb.setHL 0xFF55).storesFatal [(0xFF55, 0x80)] = true ∧
      (0x35, .dec_mHL, .memHL) ∈ rowsDec8 ∧ (startCgb.setHL 0xFF55).read 0xFF55 - 1 = 0xFE ∧
      (0xFE, .set_7_mHL, 7, .memHL) ∈ rowsSet ∧ (0x36, .swap_mHL, 6, .memHL) ∈ rowsShift ∧
      startCgb.mmu.hblankDmaRequest 0xFF54 0x80 = false ∧ (startCgb.store 0xFF54 0x80).mmu.hblankDmaRequest (0xFF54 + 1) 0xFF = true ∧
      startCgb.mmu.hblankDmaRequest (0xFF56 - 1) ((0x8000#16 >>> 8).setWidth 8) = true ∧
      startCgb.mmu.hblankDmaRequest (0xFF57 - 1) ((0x0180#16 >>> 8).setWidth 8) = false ∧
      (startCgb.store (0xFF57 - 1) 0x01).mmu.hblankDmaRequest (0xFF57 - 2) ((0x0180#16).setWidth 8) = true ∧
      (let s (sp pc : Word) : State :=
         { startCgb with ime := true, sp, pc, mmu := { startCgb.mmu with intEnable := 1, intFlag := 1 } }
       (s 0xFF56 0x8000).mmu.isReady .vblank = true ∧ (s 0xFF56 0x8000).mmu.hblankDmaRequest (0xFF56 - 1) 0x80 = true ∧
       (s 0xFF57 0x0180).mmu.isReady .vblank = true ∧ (s 0xFF57 0x0180).mmu.hblankDmaRequest (0xFF57 - 1) 0x01 = false ∧
       ((s 0xFF57 0x0180).store (0xFF57 - 1) 0x01).mmu.hblankDmaRequest (0xFF57 - 2) 0x80 = true) := by decide
theorem witness_EncodeDecode : (Instr.ld_mN16_SP 0xFFFF).wellFormed = true ∧ Instr.set_7_A.wellFormed = true := by decide

/-- `start` with INC B at PC. -/
def incAt : State := placeCode8 0x0100 [0x04] start

theorem witness_StepRunsDecoded :
    incAt = incAt.takeKeyEvents ∧ incAt.fault = none ∧ incAt.halted = false ∧ incAt.ime = false ∧ incAt.pc ∉ incAt.config.breakpoints ∧
      decode [incAt.read incAt.pc, incAt.read (incAt.pc + 1), incAt.read (incAt.pc + 2)] = .ok (.inc_B, [0, 0]) := by decide
theorem witness_InterruptCheck :
    (∀ j : Source, j.index < Source.vblank.index → (interrupted false 1 1).mmu.isReady j = false) ∧
      (interrupted false 1 1).mmu.isReady .vblank = true ∧ (interrupted false 0x10 0x1F).mmu.isReady .joypad = true ∧
      (∀ j ∈ [Source.vblank, .lcdStat, .timer, .serial], (interrupted false 0x10 0x1F).mmu.isReady j = false) ∧
      (interrupted true 1 1).ime = true ∧ (interrupted true 1 1).halted = true ∧
      State.storesFatal (pushStores start.sp 0x0158) (interrupted false 1 1) = false ∧
      (∀ j ∈ [Source.vblank, .lcdStat, .timer, .serial, .joypad], start.mmu.isReady j = false) :=
  ⟨fun j h => absurd h (Nat.not_lt_zero _), by decide⟩

/-- From a step that can be evaluated: it answers a next state, and what that state holds. -/
theorem step_next {s : State} {p : State → Bool} (h : (match step s with | .next t => p t | _ => false) = true) :
    ∃ t, step s = .next t ∧ p t = true := by
  cases hs : step s with
  | next t => rw [hs] at h; exact ⟨t, rfl, h⟩
  | fault f => rw [hs] at h; cases h
  | refused r => rw [hs] at h; cases h

theorem witness_FaultAbsorbing :
    State.fault { start with fault := some (.f5HblankDma 0x80) } = some (.f5HblankDma 0x80) ∧
      ∃ t, step (placeCode8 0x0100 [0xD3] start) = .next t ∧ (t.fault == some (.f1UndefinedOpcode 0xD3 0x0100)) = true :=
  ⟨rfl, step_next (by decide)⟩

/-- A CGB machine with the speed switch armed and STOP at PC. -/
def stopArmed : State := placeCode8 0x0100 [0x10, 0x00] (startCgb.store 0xFF4D 1)

theorem witness_FixedForLife :
    stopArmed.mmu.bootMode = false ∧ startCgb.mmu.cgb = true ∧
      ∃ t, step stopArmed = .next t ∧ (t.mmu.doubleSpeed != stopArmed.mmu.doubleSpeed) = true :=
  ⟨by decide, by decide, step_next (by decide)⟩
theorem witness_StepCost : ∃ t, step incAt = .next t ∧ (t.fault == none && t.cost == 4) = true := step_next (by decide)
theorem witness_InvariantKept : start.Inv ∧ ∃ t, step start = .next t ∧ (t.pc == 0x0101) = true :=
  ⟨witness_start_inv, step_next (by decide)⟩
theorem witness_InvariantAfterLoad_PowerOn :
    (image 0x8000 [(0x143, 0x80)]).bytes.fits 0x8000 ∧ Memory.wf [] = true ∧ InitialRam.zero.wram.fits 0x8000 ∧
      (∃ s, load Config.default (image 0x8000 [(0x143, 0x80)]) ⟨0, []⟩ (some []) InitialRam.zero = .next s ∧ s.mmu.cgb = true) ∧
      ∃ s, load Config.default (image 0x8000 []) ⟨0, []⟩ none InitialRam.zero = .next s ∧ s.mmu.cgb = false :=
  ⟨⟨by decide, by decide⟩, rfl, ⟨rfl, rfl⟩, ⟨_, rfl, rfl⟩, ⟨_, rfl, rfl⟩⟩
theorem witness_LoadChecks :
    [variantOf 0x00, variantOf 0x03, variantOf 0x13, variantOf 0x1E, variantOf 0x04, variantOf 0x0E, variantOf 0x1F]
      = [some .noBank, some .variantA, some .variantB, some .variantC, none, none, none] ∧
    [romBanks 8, romBanks 9] = [some 512, none] ∧ [ramBanks 5, ramBanks 6] = [some (8, 0x2000), none] := by decide

/-- The first and the last address of every region (R201). -/
theorem witness_MemoryReads_MemoryWrites :
    [0x0000, 0x7FFF, 0x8000, 0x9FFF, 0xA000, 0xBFFF, 0xC000, 0xCFFF, 0xD000, 0xDFFF, 0xE000, 0xFDFF, 0xFE00, 0xFE9F, 0xFEA0, 0xFEFF,
      0xFF00, 0xFF7F, 0xFF80, 0xFFFE, 0xFFFF].map start.mmu.locate
    = [.rom 0, .rom 0x7FFF, .vram 0, .vram 0x1FFF, .extRam 0, .extRam 0x1FFF, .wram 0, .wram 0xFFF, .wram 0x1000, .wram 0x1FFF,
      .wram 0, .wram 0x1DFF, .oam 0, .oam 159, .unusable, .unusable, .io 0, .io 0x7F, .hram 0, .hram 126, .ie] := by decide
theorem witness_MemoryReads_overlay :
    [0x00FF, 0x0100, 0x01FF, 0x0200, 0x08FF, 0x0900].map (Mmu.locate { startCgb.mmu with bootMode := true })
      = [.boot 0xFF, .rom 0x100, .rom 0x1FF, .boot 0x200, .boot 0x8FF, .rom 0x900] := by decide
theorem witness_IoRegisters : (start.store 0xFF0F 0xFF).read 0xFF0F = 0xFF ∧ (start.store 0xFFFF 0xFF).read 0xFFFF = 0xFF := by decide
theorem witness_MoreRegisters :
    startCgb.mmu.cgb = true ∧ 0x7F ∉ [0x4D, 0x4F, 0x51, 0x52, 0x53, 0x54, 0x55, 0x68, 0x69, 0x6A, 0x6B, 0x70] ∧
      0x7F ∉ [0x00, 0x04, 0x05, 0x06, 0x07, 0x0F, 0x40, 0x41, 0x42, 0x43, 0x44, 0x45, 0x46, 0x47, 0x48, 0x49, 0x4A, 0x4B, 0x50] := by decide
theorem witness_BankControllers :
    (banked .noBank 2 1).mapper = .noBank ∧ (banked (.variantA true 31 3 true) 128 4).mapper = .variantA true 31 3 true ∧
      (banked (.variantB true 127 15) 128 16).mapper = .variantB true 127 15 ∧
      (banked (.variantC true 255 1 15) 512 16).mapper = .variantC true 255 1 15 ∧ 0x7FFF < 0x8000 ∧ 0x1FFF < 0x2000 := by decide
theorem witness_TimerLoop :
    (251 + 4 < 256 ∧ 256 ≤ 252 + 4) ∧ (BitVec.getLsbD (3#3) 2 = false ∧ BitVec.getLsbD (4#3) 2 = true) ∧
      (1019 + 4 < 1024 ∧ 1024 ≤ 1020 + 4) ∧ (11 + 4 < 16 ∧ 16 ≤ 12 + 4) := by decide
theorem witness_LcdSwitch :
    start.mmu.video.lcdc.getLsbD 7 = false ∧ (start.store 0xFF40 0x80).mmu.video.mode = .oamSearch ∧
      ((start.store 0xFF40 0x80).store 0xFF40 0x7F).mmu.video.mode = .hblank := by decide
theorem witness_VideoLoop :
    (lcd 0 76 .oamSearch).lcdc.getLsbD 7 = true ∧ 80 ≤ (lcd 0 76 .oamSearch).lineCycles + 4 ∧ (lcd 0 75 .oamSearch).lineCycles + 4 < 80 ∧
      252 ≤ (lcd 0 248 .transfer).lineCycles + 4 ∧ (lcd 143 452 .hblank).ly + 1 = 144 ∧ (lcd 142 452 .hblank).ly + 1 ≠ 144 ∧
      456 ≤ (lcd 143 452 .hblank).lineCycles + 4 ∧ (lcd 153 452 .vblank).ly + 1 = 154 ∧ (lcd 152 452 .vblank).ly + 1 ≠ 154 ∧
      (lcd 153 451 .vblank).lineCycles + 4 < 456 := by decide
theorem witness_FrameOfRows :
    (lcd 0 0 .oamSearch).lcdc.getLsbD 7 = true ∧ (lcd 0 0 .oamSearch).placed ∧ (lcd 143 455 .hblank).placed ∧ (lcd 153 455 .vblank).placed := by
  refine ⟨by decide, ?_, ?_, ?_⟩ <;> (unfold Video.placed; rw [if_pos (by decide)]; simp [lcd])
theorem witness_TilesAndColours :
    ∃ row, .line row 0 ∈ ((lcd 0 76 .oamSearch).step true Config.default.dmgShades 4).2 := ⟨_, .head _⟩
theorem witness_BackgroundPixels :
    (tileVideo.lcdc.getLsbD 5 = false ∧ tileVideo.lcdc.getLsbD 0 = true) ∧
      (let w : Video := { tileVideo with lcdc := 0xA0, windowStarted := true, wx := 166, windowLine := 256 }
       w.lcdc.getLsbD 5 = true ∧ w.windowStarted = true ∧ w.wx.toNat ≤ 159 + 7 ∧ ¬ w.wx.toNat ≤ 158 + 7 ∧ w.lcdc.getLsbD 0 = false) := by
  decide
theorem witness_SpritePixels :
    tileVideo.lcdc.getLsbD 1 = true ∧ tileVideo.sprites = [] ++ 0 :: [] ∧ (tileVideo.oam.read 1).toNat ≤ 1 + 8 ∧
      1 + 8 < (tileVideo.oam.read 1).toNat + 8 ∧ tileVideo.spriteIndex false 1 0 ≠ 0 ∧ (tileVideo.oam.read 3).getLsbD 7 = false ∧
      tileVideo.spritePixel false (0, 0) 8 0 = none ∧ { tileVideo with lcdc := 0x91 }.lcdc.getLsbD 1 = false := by decide
theorem witness_OamDmaLoop :
    OamDma.reset.active = false ∧ (startOamDma 0xC0).active = true ∧ (startOamDma 0xC0).cursor < 160 ∧ 4 ≤ (startOamDma 0xC0).acc + 4 ∧
      (startOamDma 0xC0).acc + 3 < 4 ∧ OamDma.cursor ⟨0, true, 0, 160, 0⟩ = 160 := by decide
theorem witness_VramDma :
    startCgb.mmu.cgb = true ∧ (0x7F#8).toNat < 128 ∧ startCgb.mmu.hdma.armed = false ∧
      (let h := Hdma.arm ⟨0xC8, 0, 0x80, 0, false, 0, 0, 0⟩ 0x7F
       h.armed = true ∧ 0xC000 ≤ h.src.toNat ∧ h.src.toNat + h.len = 0xD000 ∧ h.len ≤ 0x2000) := by decide

end Sys2Proof.Machine.Tests
end

section
/-! SUPPORT. The state between steps (10_state.md): the invariant through the moves of the CPU and through the peripherals
(O41), and the fatal conditions (O38). -/

namespace Sys2Proof.Machine

/-! ## The unit of `step_cycles` keeps the bounds -/

/-- The part of the invariant that holds in the middle of a step too: F's low nibble and the bounds of the MMU. -/
def State.Bounded (s : State) : Prop := s.regs.inv ∧ s.mmu.inv s.config.mbc3ZeroIsOne

/-- Only CGB mode switches the speed, so what DMG mode has not stays at its reset value. -/
theorem switchSpeed_inv {z : Bool} {m : Mmu} (hcgb : m.cgb = true) (h : m.inv z) : m.switchSpeed.inv z := by
  obtain ⟨hc, ht, hv, ho, -, hmem⟩ := h
  exact ⟨hc, ht, hv, ho, fun hdmg => absurd (hcgb.symm.trans hdmg) (by decide), hmem⟩

theorem move_bounded {w : Bool} {s t : State} (h : Move w s t) (hs : s.Bounded) : t.Bounded := by
  obtain ⟨hregs, hmmu⟩ := hs
  cases h with
  | regs r hf =>
    refine ⟨?_, hmmu⟩
    rcases hf with hkept | hlow
    · unfold Regs.inv; rw [hkept]; exact hregs
    · exact hlow
  | store a v _ => exact ⟨hregs, write_inv a v hmmu⟩
  | switchSpeed _ hcgb => exact ⟨hregs, switchSpeed_inv hcgb hmmu⟩
  | _ => exact ⟨hregs, hmmu⟩

theorem moves_bounded {w : Bool} {s t : State} (h : Moves w s t) (hs : s.Bounded) : t.Bounded :=
  h.keeps (fun _ _ hm => move_bounded hm) hs

theorem takeKeyEvents_bounded {s : State} (hs : s.Bounded) : s.takeKeyEvents.Bounded := by
  unfold State.takeKeyEvents
  split <;> exact hs

/-! ## The peripherals keep the bounds and settle -/

/-- Drawing leaves the palette indexes and the memories as they are. -/
theorem Video.Drawn.inv {v w : Video} (hd : v.Drawn w) (hv : v.inv) (hp : w.placed) (hs : w.spritesListed) : w.inv := by
  obtain ⟨-, -, hmem⟩ := hv
  unfold Video.Drawn at hd
  refine ⟨hp, hs, ?_⟩
  rw [hd]
  exact hmem

theorem Video.Drawn.vbk {v w : Video} (h : v.Drawn w) : w.vbk = v.vbk := by
  unfold Video.Drawn at h; rw [h]

theorem Video.Drawn.vram {v w : Video} (h : v.Drawn w) : w.vram = v.vram := by
  unfold Video.Drawn at h; rw [h]

theorem videoStep_inv {z : Bool} {m : Mmu} (cfg : Config) (n : Nat) (h : m.inv z) : (m.videoStep cfg n).inv z := by
  obtain ⟨hc, ht, hv, ho, hd, hmem⟩ := h
  have hdrawn := videoStep_drawn m.video m.cgb cfg.dmgShades n
  obtain ⟨hplaced, hsprites⟩ := videoStep_placed m.cgb cfg.dmgShades n hv.1 hv.2.1
  refine ⟨hc, ht, hdrawn.inv hv hplaced hsprites, ho, fun hdmg => ?_, hmem⟩
  obtain ⟨hspeed, hkey1, hvbk, hsvbk, hunarmed, hbank, hwram⟩ := hd hdmg
  exact ⟨hspeed, hkey1, hdrawn.vbk.trans hvbk, hsvbk, hunarmed, hdrawn.vram ▸ hbank, hwram⟩

/-- `mmu_step` keeps the bounds, collects the requests and leaves no VRAM DMA armed. -/
theorem mmuStep_inv {z : Bool} {m : Mmu} (cfg : Config) (c : Nat) (h : m.inv z) :
    (m.step cfg c).inv z ∧ (m.step cfg c).settled := by
  obtain ⟨hc, ht, hv, ho, hd, hmem⟩ := h
  have htimer := timerStep_inv (t := m.collectRequests.timer) c ht
  obtain ⟨oam, dma, hoam, hfits, hdma⟩ :=
    oamDmaStep_inv (m := { m.collectRequests with timer := m.collectRequests.timer.step c }) cfg c hv hd ho
  obtain ⟨hplaced, hsprites, hbcps, hocps, hvram, -, hpram⟩ := hv
  unfold Mmu.step
  simp only [hoam]
  obtain ⟨vram, hdma', e, hvfits, harmed, hsame⟩ := hdmaStep_inv (m := { m.collectRequests with
    timer := m.collectRequests.timer.step c, video := { m.collectRequests.video with oam := oam }, oamDma := dma }) cfg hvram
  rw [e]
  refine ⟨⟨hc, htimer.1, ⟨hplaced, hsprites, hbcps, hocps, hvfits, hfits, hpram⟩, hdma, fun hdmg => ?_, hmem⟩,
    harmed, rfl, rfl, rfl, htimer.2⟩
  obtain ⟨hspeed, hkey1, hvbk, hsvbk, hunarmed, hbank, hwram⟩ := hd hdmg
  refine ⟨hspeed, hkey1, hvbk, hsvbk, harmed, ?_, hwram⟩
  rw [hsame hunarmed]
  exact hbank

theorem peripherals_inv {z : Bool} {m : Mmu} (cfg : Config) (ds : Bool) (c : Nat) (h : m.inv z) :
    (m.peripherals cfg ds c).inv z ∧ (m.peripherals cfg ds c).settled :=
  mmuStep_inv cfg c (videoStep_inv cfg _ h)

/-- After a fatal condition the bounds are all that is asked; else the peripherals settle the machine. -/
theorem afterCycles_inv {s : State} (ds : Bool) (h : s.Bounded) : (s.afterCycles ds).Inv := by
  obtain ⟨hregs, hmmu⟩ := h
  unfold State.afterCycles
  split
  · next hfault => exact ⟨hregs, hmmu, fun hnone => by rw [hnone] at hfault; cases hfault⟩
  · obtain ⟨hbounds, hsettled⟩ := peripherals_inv s.config ds s.cost hmmu
    exact ⟨hregs, hbounds, fun _ => hsettled⟩

/-! ## The step -/

/-- A step that answers a next state was taken without a fatal condition: it is the unit of `step_cycles`, reached by
moves, and the peripherals after it (R601, R614). -/
theorem step_cases {s t : State} (h : step s = .next t) : s.fault = none ∧
    ∃ u, s.takeKeyEvents.stepCycles = .next u ∧ Moves true s.takeKeyEvents u ∧ t = u.afterCycles s.mmu.doubleSpeed := by
  unfold step at h
  split at h
  · cases h
  · next hfault =>
    obtain ⟨u, hu, hmoves⟩ := stepCycles_moves s.takeKeyEvents
    unfold State.systemStep at h
    rw [hu] at h
    cases h
    exact ⟨hfault, u, hu, hmoves, rfl⟩

/-- Settles O41: the moves of the CPU keep the bounds, and the peripherals settle what the moves left open. -/
theorem invariantKept : Obligations.InvariantKept := by
  unfold Obligations.InvariantKept
  rintro s t ⟨hregs, hmmu, -⟩ h
  obtain ⟨-, u, -, hmoves, rfl⟩ := step_cases h
  exact afterCycles_inv _ (moves_bounded hmoves (takeKeyEvents_bounded ⟨hregs, hmmu⟩))

/-! ## Fatal conditions -/

@[simp] theorem takeKeyEvents_fault (s : State) : s.takeKeyEvents.fault = s.fault := by
  unfold State.takeKeyEvents; split <;> rfl

@[simp] theorem afterCycles_fault (s : State) (ds : Bool) : (s.afterCycles ds).fault = s.fault := by
  unfold State.afterCycles; split <;> rfl

theorem afterCycles_of_fault {s : State} {f : Fault} (ds : Bool) (h : s.fault = some f) : s.afterCycles ds = s := by
  unfold State.afterCycles; rw [if_pos (by rw [h]; rfl)]

theorem step_of_fault {s : State} {f : Fault} (h : s.fault = some f) : step s = .fault f := by
  unfold step; rw [h]

theorem reaches_of_fault {s t : State} {f : Fault} (h : s.fault = some f) (ht : Reaches s t) : t = s := by
  induction ht with
  | here => rfl
  | after _ hu ih => rw [ih, step_of_fault h] at hu; cases hu

theorem runOneFrame_of_fault {s : State} {f : Fault} (h : s.fault = some f) (fuel : Nat) : runOneFrame fuel s = none := by
  unfold runOneFrame
  cases fuel with
  | zero => rfl
  | succ n => unfold stepsToFrame; rw [step_of_fault (s := s.clearFrameComplete) h]

/-- A fatal condition recorded in the state, if any, is one a running machine raises. -/
def State.FaultRuns (s : State) : Prop := ∀ f, s.fault = some f → f.running

theorem move_faultRuns {w : Bool} {s t : State} (h : Move w s t) (hs : s.FaultRuns) : t.FaultRuns := by
  cases h with
  | raise f hf => rintro g ⟨⟩; exact hf
  | _ => exact hs

theorem moves_faultRuns {w : Bool} {s t : State} (h : Moves w s t) (hs : s.FaultRuns) : t.FaultRuns :=
  h.keeps (fun _ _ hm => move_faultRuns hm) hs

theorem code_of_running {f : Fault} (h : f.running) : f.code ∈ [1, 5, 6] := by
  cases f with
  | f1UndefinedOpcode | f5HblankDma | f6StopOnDmg => simp [Fault.code]
  | _ => exact h.elim

theorem code_bounds (f : Fault) : 1 ≤ f.code ∧ f.code ≤ 8 := by
  cases f <;> simp [Fault.code]

/-- The step that enters a fatal condition ends with the unit of `step_cycles` that raised it. -/
theorem step_enters_fault {s t : State} {f : Fault} (h : step s = .next t) (hf : t.fault = some f) :
    s.takeKeyEvents.stepCycles = .next t ∧ f.code ∈ [1, 5, 6] := by
  obtain ⟨hnone, u, hu, hmoves, rfl⟩ := step_cases h
  rw [afterCycles_fault] at hf
  rw [afterCycles_of_fault _ hf]
  have hstart : s.takeKeyEvents.FaultRuns := fun g hg => by rw [takeKeyEvents_fault, hnone] at hg; cases hg
  exact ⟨hu, code_of_running (moves_faultRuns hmoves hstart f hf)⟩

/-- Settles O38: a step from a fatal condition answers it, and only the moves of a step raise one. -/
theorem faultAbsorbing : Obligations.FaultAbsorbing := by
  unfold Obligations.FaultAbsorbing
  exact ⟨fun _ _ h => ⟨step_of_fault h, fun _ => reaches_of_fault h, runOneFrame_of_fault h⟩,
    fun _ _ _ => step_enters_fault, rfl, code_bounds⟩

end Sys2Proof.Machine
end

section
/-! SUPPORT. The registers of the I/O page (10_state.md R112-R136): what each reads and all that a store to it changes. -/

namespace Sys2Proof.Machine

/-! ## The I/O page -/

/-- The I/O page is 0xFF00-0xFF7F, whatever the overlay and the banks (R201). -/
theorem locate_ioPage (m : Mmu) {a : Word} (hlo : 0xFF00 ≤ a.toNat) (hhi : a.toNat < 0xFF80) :
    m.locate a = .io (a.toNat - 0xFF00) := by
  have hu : unecho a.toNat = a.toNat := unecho_high (by omega)
  have hov : m.overlaid a.toNat = false := by unfold Mmu.overlaid; simp; omega
  have hn : ∀ n ≤ 0xFF00, ¬ a.toNat < n := by omega
  unfold Mmu.locate
  simp [hu, hov, hn, hhi]

theorem State.read_ioPage (s : State) {a : Word} (hlo : 0xFF00 ≤ a.toNat) (hhi : a.toNat < 0xFF80) :
    s.read a = s.mmu.ioRead (a.toNat - 0xFF00) := by
  unfold State.read Mmu.read
  rw [locate_ioPage _ hlo hhi]

theorem State.store_ioPage (s : State) {a : Word} (v : Byte) (hlo : 0xFF00 ≤ a.toNat) (hhi : a.toNat < 0xFF80) :
    s.store a v = { s with mmu := s.mmu.ioWrite (a.toNat - 0xFF00) v } := by
  unfold State.store Mmu.write
  rw [if_neg (by omega), locate_ioPage _ hlo hhi]

theorem locate_ie (m : Mmu) : m.locate 0xFFFF#16 = .ie := by
  simp [Mmu.locate, Mmu.overlaid, unecho]

theorem State.read_ie (s : State) : s.read 0xFFFF#16 = s.mmu.intEnable := by
  unfold State.read Mmu.read
  rw [locate_ie]

theorem State.store_ie (s : State) (v : Byte) :
    s.store 0xFFFF#16 v = { s with mmu := { s.mmu with intEnable := v } } := by
  unfold State.store Mmu.write
  rw [if_neg (by decide), locate_ie]

/-- The offsets of the registers of CGB mode (R112, D60). -/
@[simp] def cgbOffsets : List Nat := [0x4D, 0x4F, 0x51, 0x52, 0x53, 0x54, 0x55, 0x68, 0x69, 0x6A, 0x6B, 0x70]

/-- At every other offset the two modes have the same register. -/
@[simp] theorem ioReg_both (cgb : Bool) {k : Nat} (h : k ∉ cgbOffsets) : ioReg cgb k = ioRegBoth k := by
  cases cgb with
  | false => rfl
  | true =>
    simp only [cgbOffsets, List.mem_cons, List.not_mem_nil, or_false, not_or] at h
    simp [ioReg, ioRegCgb, h]

/-! ## The joypad -/

theorem pack4_toNat (b3 b2 b1 b0 : Bool) :
    (pack4 b3 b2 b1 b0).toNat = 8 * b3.toNat + 4 * b2.toNat + 2 * b1.toNat + b0.toNat := by
  revert b3 b2 b1 b0; decide

/-- P1's byte is its fields side by side (R114). -/
theorem p1Byte_toNat (j : Joypad) : j.p1Byte.toNat = 0xC0 + 16 * j.sel.toNat + j.nibble.toNat := by
  have fields : ∀ (sel : BitVec 2) (low : BitVec 4), ((0b11#2 ++ sel) ++ low).toNat = 0xC0 + 16 * sel.toNat + low.toNat := by
    decide
  exact fields j.sel j.nibble

/-- One group's share of the nibble: 15 less the pressed buttons, if the group is selected by a 0 bit (R691). -/
theorem group_toNat (off b3 b2 b1 b0 : Bool) :
    (bif off then 0xF#4 else ~~~pack4 b3 b2 b1 b0).toNat =
      15 - (if !off then 8 * b3.toNat + 4 * b2.toNat + 2 * b1.toNat + b0.toNat else 0) := by
  cases off with
  | true => rfl
  | false => simp [pack4_toNat]

/-- Settles O46: the table of the registers, row by row, and P1 from its fields. -/
theorem ioRegisters : Obligations.IoRegisters := by
  unfold Obligations.IoRegisters
  refine fun s v => ⟨fun a r m h => ?_, ?_, ?_⟩
  · simp only [List.mem_cons, Prod.mk.injEq, List.not_mem_nil, or_false] at h
    rcases h with h | h | h | h | h | h | h | h | h | h | h | h | h | h | h <;> obtain ⟨rfl, rfl, rfl⟩ := h <;>
      simp [State.read_ioPage, State.store_ioPage, State.read_ie, State.store_ie, Mmu.ioRead, Mmu.ioWrite, ioRegBoth]
  · have hread : s.read 0xFF00 = s.mmu.joypad.p1Byte := by
      simp [State.read_ioPage, Mmu.ioRead, ioRegBoth]
    rw [hread, p1Byte_toNat, Joypad.nibble, BitVec.toNat_and, group_toNat, group_toNat]
  · have hsel : v.extractLsb' 4 2 = (v >>> 4).setWidth 2 := by ext i hi; simp
    simp [State.store_ioPage, Mmu.ioWrite, ioRegBoth, hsel]

/-! ## STAT and the palette ports -/

/-- STAT's byte is its fields side by side (R120). -/
theorem statByte_toNat (v : Video) :
    v.statByte.toNat = 128 + 8 * v.statEnable.toNat + 4 * v.coincidence.toNat + v.mode.bits.toNat := by
  have fields : ∀ (en : BitVec 4) (c : Bool) (mode : BitVec 2),
      (0x80#8 ||| (en.setWidth 8 <<< 3) ||| ((BitVec.ofBool c).setWidth 8 <<< 2) ||| mode.setWidth 8).toNat =
        128 + 8 * en.toNat + 4 * c.toNat + mode.toNat := by decide
  exact fields v.statEnable v.coincidence v.mode.bits

/-- The post-increment in plain arithmetic (R133). -/
theorem paletteIndexAfter_eq (b : Byte) : paletteIndexAfter b =
    if b.getLsbD 7 then 0x80#8 + BitVec.ofNat 8 ((b.toNat % 64 + 1) % 64) else b := by
  have disjoint : ∀ i : BitVec 6, 0x80#8 ||| i.setWidth 8 = 0x80#8 + BitVec.ofNat 8 i.toNat := by decide
  unfold paletteIndexAfter
  rw [disjoint, BitVec.toNat_add, BitVec.toNat_setWidth]
  rfl

/-- KEY1's byte: the speed in bit 7, the arming in bit 0 (R127). -/
theorem key1Byte (fast armed : Bool) :
    ((BitVec.ofBool fast).setWidth 8 <<< 7) ||| 0x7E#8 ||| (BitVec.ofBool armed).setWidth 8 =
      (if fast then 0x80#8 else 0) ||| 0x7E#8 ||| (if armed then 1#8 else 0) := by
  revert fast armed; decide

/-! ## Plain storage -/

/-- The offsets of the registers of both modes (R112). -/
def bothOffsets : List Nat :=
  [0x00, 0x04, 0x05, 0x06, 0x07, 0x0F, 0x40, 0x41, 0x42, 0x43, 0x44, 0x45, 0x46, 0x47, 0x48, 0x49, 0x4A, 0x4B, 0x50]

theorem ioReg_plain {cgb : Bool} {k : Nat} (hboth : k ∉ bothOffsets) (hcgb : cgb = true → k ∉ cgbOffsets) :
    ioReg cgb k = .plain := by
  have h : ioReg cgb k = ioRegBoth k := by
    cases cgb with
    | false => rfl
    | true => exact ioReg_both true (hcgb rfl)
  simp only [bothOffsets, List.mem_cons, List.not_mem_nil, or_false, not_or] at hboth
  rw [h]
  simp [ioRegBoth, hboth]

/-- A plain address of the I/O page: what it reads, what a store changes, and what is read back (R135). -/
theorem plain_access (s : State) (v : Byte) {k : Nat} (hk : k < 0x80) (hreg : ioReg s.mmu.cgb k = .plain) :
    s.read (0xFF00 + BitVec.ofNat 16 k) = s.mmu.io.read k ∧
      s.store (0xFF00 + BitVec.ofNat 16 k) v = { s with mmu := { s.mmu with io := s.mmu.io.write k v } } ∧
      (s.store (0xFF00 + BitVec.ofNat 16 k) v).read (0xFF00 + BitVec.ofNat 16 k) = v := by
  have hadr : (0xFF00 + BitVec.ofNat 16 k : Word).toNat = 0xFF00 + k := by
    rw [BitVec.toNat_add, BitVec.toNat_ofNat]; simp; omega
  have hread (t : State) : t.read (0xFF00 + BitVec.ofNat 16 k) = t.mmu.ioRead k := by
    rw [State.read_ioPage _ (by omega) (by omega), hadr, Nat.add_sub_cancel_left]
  have hstore : s.store (0xFF00 + BitVec.ofNat 16 k) v = { s with mmu := { s.mmu with io := s.mmu.io.write k v } } := by
    rw [State.store_ioPage _ _ (by omega) (by omega), hadr, Nat.add_sub_cancel_left]
    simp only [Mmu.ioWrite, hreg]
  refine ⟨?_, hstore, ?_⟩
  · rw [hread]; simp only [Mmu.ioRead, hreg]
  · rw [hstore, hread]
    simp only [Mmu.ioRead, hreg]
    exact Memory.read_write_same _ _ _

/-! ## BOOT -/

theorem store_boot (s : State) (v : Byte) : s.store 0xFF50 v = { s with mmu := s.mmu.writeBoot 0x50 v } := by
  simp [State.store_ioPage, Mmu.ioWrite, ioRegBoth]

theorem read_boot (s : State) : s.read 0xFF50 = s.mmu.io.read 0x50 := by
  simp [State.read_ioPage, Mmu.ioRead, ioRegBoth]

/-- Settles O47: STAT, DMA and BOOT, the table of the registers of CGB mode row by row, and plain storage. -/
theorem moreRegisters : Obligations.MoreRegisters := by
  unfold Obligations.MoreRegisters
  refine fun s v => ⟨⟨?_, ?_⟩, ?_, ⟨read_boot s, ?_, ?_, ?_⟩, fun hcgb a r m h => ?_, fun hcgb => ?_,
    fun k hk hboth hcgb => plain_access s v hk (ioReg_plain hboth hcgb)⟩
  · have hread : s.read 0xFF41 = s.mmu.video.statByte := by
      simp [State.read_ioPage, Mmu.ioRead, ioRegBoth]
    rw [hread, statByte_toNat]
    cases s.mmu.video.mode <;> rfl
  · have hen : v.extractLsb' 3 4 = (v >>> 3).setWidth 4 := by ext i hi; simp
    simp [State.store_ioPage, Mmu.ioWrite, ioRegBoth, hen]
  · simp [State.read_ioPage, State.store_ioPage, Mmu.ioRead, Mmu.ioWrite, ioRegBoth, startOamDma]
  · rw [read_boot, store_boot]; exact Memory.read_write_same _ _ _
  · rw [store_boot]; rfl
  · rw [store_boot]; rfl
  · simp only [List.mem_cons, Prod.mk.injEq, List.not_mem_nil, or_false] at h
    rcases h with h | h | h | h | h | h | h | h | h | h | h <;> obtain ⟨rfl, rfl, rfl⟩ := h <;>
      simp [State.read_ioPage, State.store_ioPage, Mmu.ioRead, Mmu.ioWrite, ioReg, hcgb, ioRegCgb, key1Byte, paletteByte,
        paletteIndexAfter_eq]
  · simp [State.read_ioPage, Mmu.ioRead, ioReg, hcgb, ioRegCgb]

end Sys2Proof.Machine
end

section
/-! SUPPORT. The memory map (20_memory.md R201, R202): the region each address is in, and what a read and a store do there. -/

namespace Sys2Proof.Machine

/-! ## The bank selects and the blocked reads -/

theorem vbank_eq (m : Mmu) : m.vbank = if m.cgb then m.video.vbk.toNat else 0 := by
  unfold Mmu.vbank; cases m.cgb <;> rfl

theorem wbank_eq (m : Mmu) : m.wbank = if m.cgb then (if m.svbk = 0 then 1 else m.svbk.toNat) else 1 := by
  unfold Mmu.wbank
  cases m.cgb with
  | false => rfl
  | true => by_cases h : m.svbk = 0 <;> simp [h]

theorem vramBlocked_iff (v : Video) : v.vramBlocked = true ↔ v.lcdc.getLsbD 7 = true ∧ v.mode = .transfer := by
  simp [Video.vramBlocked, Video.lcdOn]

theorem oamBlocked_iff (v : Video) :
    v.oamBlocked = true ↔ v.lcdc.getLsbD 7 = true ∧ (v.mode = .oamSearch ∨ v.mode = .transfer) := by
  simp [Video.oamBlocked, Video.lcdOn]

/-! ## The regions -/

theorem overlaid_iff (m : Mmu) (n : Nat) :
    m.overlaid n = true ↔ m.bootMode = true ∧ (n < 0x100 ∨ m.cgb = true ∧ 0x200 ≤ n ∧ n < 0x900) := by
  simp [Mmu.overlaid, and_assoc]

theorem overlaid_high (m : Mmu) {n : Nat} (h : 0x900 ≤ n) : m.overlaid n = false := by
  rw [← Bool.not_eq_true, overlaid_iff]; omega

section Regions
variable (m : Mmu) {a : Word}

theorem locate_overlay (h : m.overlaid a.toNat = true) : m.locate a = .boot a.toNat := by
  have hlow : a.toNat < 0x900 := by rw [overlaid_iff] at h; omega
  unfold Mmu.locate
  simp [unecho_low (show a.toNat < 0xE000 by omega), h]

theorem locate_romWindow (h : m.overlaid a.toNat = false) (hhi : a.toNat < 0x8000) :
    m.locate a = .rom (m.cart.romIndex a.toNat) := by
  unfold Mmu.locate
  simp [unecho_low (show a.toNat < 0xE000 by omega), h, hhi]

theorem locate_vramWindow (hlo : 0x8000 ≤ a.toNat) (hhi : a.toNat < 0xA000) :
    m.locate a = .vram (m.vbank * 0x2000 + (a.toNat - 0x8000)) := by
  unfold Mmu.locate
  simp [unecho_low (show a.toNat < 0xE000 by omega), overlaid_high m (show 0x900 ≤ a.toNat by omega), hlo.not_gt, hhi]

theorem locate_ramWindow (hlo : 0xA000 ≤ a.toNat) (hhi : a.toNat < 0xC000) :
    m.locate a = m.cart.ramLoc (a.toNat - 0xA000) := by
  have hn : ∀ n ≤ 0xA000, ¬ a.toNat < n := by omega
  unfold Mmu.locate
  simp [unecho_low (show a.toNat < 0xE000 by omega), overlaid_high m (show 0x900 ≤ a.toNat by omega), hn, hhi]

theorem locate_wramFixed (hlo : 0xC000 ≤ a.toNat) (hhi : a.toNat < 0xD000) : m.locate a = .wram (a.toNat - 0xC000) := by
  have hn : ∀ n ≤ 0xC000, ¬ a.toNat < n := by omega
  unfold Mmu.locate
  simp [unecho_low (show a.toNat < 0xE000 by omega), overlaid_high m (show 0x900 ≤ a.toNat by omega), hn, hhi]

theorem locate_wramBanked (hlo : 0xD000 ≤ a.toNat) (hhi : a.toNat < 0xE000) :
    m.locate a = .wram (m.wbank * 0x1000 + (a.toNat - 0xD000)) := by
  have hn : ∀ n ≤ 0xD000, ¬ a.toNat < n := by omega
  unfold Mmu.locate
  simp [unecho_low hhi, overlaid_high m (show 0x900 ≤ a.toNat by omega), hn, hhi]

/-- The echo leads where the address 0x2000 below it leads (R208). -/
theorem locate_echo (hlo : 0xE000 ≤ a.toNat) (hhi : a.toNat < 0xFE00) : m.locate a = m.locate (a - 0x2000) := by
  have hsub : (a - 0x2000).toNat = a.toNat - 0x2000 := BitVec.toNat_sub_of_le (by bv_omega)
  have hsame : unecho a.toNat = unecho (a - 0x2000).toNat := by
    rw [unecho_echo hlo hhi, hsub, unecho_low (by omega)]
  unfold Mmu.locate
  rw [hsame]

theorem locate_oamRange (hlo : 0xFE00 ≤ a.toNat) (hhi : a.toNat < 0xFEA0) : m.locate a = .oam (a.toNat - 0xFE00) := by
  have hn : ∀ n ≤ 0xFE00, ¬ a.toNat < n := by omega
  unfold Mmu.locate
  simp [unecho_high hlo, overlaid_high m (show 0x900 ≤ a.toNat by omega), hn, hhi]

theorem locate_unusableRange (hlo : 0xFEA0 ≤ a.toNat) (hhi : a.toNat < 0xFF00) : m.locate a = .unusable := by
  have hn : ∀ n ≤ 0xFEA0, ¬ a.toNat < n := by omega
  unfold Mmu.locate
  simp [unecho_high (show 0xFE00 ≤ a.toNat by omega), overlaid_high m (show 0x900 ≤ a.toNat by omega), hn, hhi]

theorem locate_hramRange (hlo : 0xFF80 ≤ a.toNat) (hhi : a.toNat < 0xFFFF) : m.locate a = .hram (a.toNat - 0xFF80) := by
  have hn : ∀ n ≤ 0xFF80, ¬ a.toNat < n := by omega
  unfold Mmu.locate
  simp [unecho_high (show 0xFE00 ≤ a.toNat by omega), overlaid_high m (show 0x900 ≤ a.toNat by omega), hn, hhi]

end Regions

/-! ## Reads and stores go by where the address leads -/

theorem State.read_of_locate (s : State) {a b : Word} (h : s.mmu.locate a = s.mmu.locate b) : s.read a = s.read b := by
  unfold State.read Mmu.read; rw [h]

theorem State.store_of_locate (s : State) {a b : Word} (v : Byte) (ha : 0x8000 ≤ a.toNat) (hb : 0x8000 ≤ b.toNat)
    (h : s.mmu.locate a = s.mmu.locate b) : s.store a v = s.store b v := by
  unfold State.store Mmu.write; rw [if_neg ha.not_gt, if_neg hb.not_gt, h]

/-- Settles O44: the region of the address, and what a read finds there. -/
theorem memoryReads : Obligations.MemoryReads := by
  unfold Obligations.MemoryReads
  refine fun s a => ⟨fun h => ?_, fun h hhi => ?_, fun hlo hhi => ?_, fun hlo hhi => ?_, fun hlo hhi => ?_, fun hlo hhi => ?_,
    fun hlo hhi => s.read_of_locate (locate_echo _ hlo hhi), fun hlo hhi => ?_, fun hlo hhi => ?_,
    fun hlo hhi => s.read_ioPage hlo hhi, fun hlo hhi => ?_, fun h => ?_⟩
  · rw [State.read, Mmu.read, locate_overlay _ ((overlaid_iff _ _).2 h)]
  · rw [State.read, Mmu.read, locate_romWindow _ (Bool.not_eq_true _ ▸ mt (overlaid_iff _ _).1 h) hhi]
  · rw [State.read, Mmu.read, locate_vramWindow _ hlo hhi, vbank_eq]
    simp only [cond_eq_ite, vramBlocked_iff]
  · rw [State.read, Mmu.read, locate_ramWindow _ hlo hhi, Cartridge.ramLoc]
    cases s.mmu.cart.ramIndex (a.toNat - 0xA000) <;> rfl
  · rw [State.read, Mmu.read, locate_wramFixed _ hlo hhi]
  · rw [State.read, Mmu.read, locate_wramBanked _ hlo hhi, wbank_eq]
  · rw [State.read, Mmu.read, locate_oamRange _ hlo hhi]
    simp only [cond_eq_ite, oamBlocked_iff]
  · rw [State.read, Mmu.read, locate_unusableRange _ hlo hhi]
  · rw [State.read, Mmu.read, locate_hramRange _ hlo hhi]
  · rw [show a = 0xFFFF#16 from BitVec.eq_of_toNat_eq h, State.read_ie]

/-- Settles O45: below 0x8000 the store is the controller's; above, the region of the address says what is written. -/
theorem memoryWrites : Obligations.MemoryWrites := by
  unfold Obligations.MemoryWrites
  refine fun s a v => ⟨fun h => ?_, fun hlo hhi => ?_, fun hlo hhi => ?_, fun hlo hhi => ?_, fun hlo hhi => ?_,
    fun hlo hhi => s.store_of_locate v (by omega) (by bv_omega) (locate_echo _ hlo hhi), fun hlo hhi => ?_, fun hlo hhi => ?_,
    fun hlo hhi => s.store_ioPage v hlo hhi, fun hlo hhi => ?_, fun h => ?_⟩
  · rw [State.store, Mmu.write, if_pos h]
  · rw [State.store, Mmu.write, if_neg (by omega), locate_vramWindow _ hlo hhi, vbank_eq]
  · rw [State.store, Mmu.write, if_neg (by omega), locate_ramWindow _ hlo hhi, Cartridge.ramLoc]
    cases s.mmu.cart.ramIndex (a.toNat - 0xA000) <;> rfl
  · rw [State.store, Mmu.write, if_neg (by omega), locate_wramFixed _ hlo hhi]
  · rw [State.store, Mmu.write, if_neg (by omega), locate_wramBanked _ hlo hhi, wbank_eq]
  · rw [State.store, Mmu.write, if_neg (by omega), locate_oamRange _ hlo hhi]
  · rw [State.store, Mmu.write, if_neg (by omega), locate_unusableRange _ hlo hhi]
  · rw [State.store, Mmu.write, if_neg (by omega), locate_hramRange _ hlo hhi]
  · rw [show a = 0xFFFF#16 from BitVec.eq_of_toNat_eq h, State.store_ie]

end Sys2Proof.Machine
end

section
/-! SUPPORT. The bank controllers (20_memory.md R247-R255): the bytes their windows show and what a control write selects. -/

namespace Sys2Proof.Machine

/-! ## The fields of a control write in plain arithmetic -/

theorem setWidth_eq_ofNat_mod (k : Nat) (v : Byte) : v.setWidth k = BitVec.ofNat k (v.toNat % 2 ^ k) := by
  apply BitVec.eq_of_toNat_eq; simp

theorem ofNat_mod_eq_zero_iff (k x : Nat) : BitVec.ofNat k (x % 2 ^ k) = 0#k ↔ x % 2 ^ k = 0 := by
  rw [← BitVec.toNat_inj]; simp

theorem ramEnableValue_eq (v : Byte) : ramEnableValue v = decide (v.toNat % 16 = 10) := by
  rw [Bool.eq_iff_iff]
  simp [ramEnableValue, ← BitVec.toNat_inj]

theorem lowBit_eq (v : Byte) : v.getLsbD 0 = decide (v.toNat % 2 = 1) := by
  simp [BitVec.getLsbD, Nat.testBit_zero]

/-! ## The windows -/

/-- The ROM windows of a banked cartridge, by the bank selected (R249, R252, R254, R255). -/
theorem romIndex_banked {c : Cartridge} (h : c.mapper ≠ .noBank) (n : Nat) :
    c.romIndex n = if n < 0x4000 then n else c.mapper.romBank % c.nRom * 0x4000 + (n - 0x4000) := by
  unfold Cartridge.romIndex
  cases hm : c.mapper with
  | noBank => exact absurd hm h
  | _ => rfl

/-- The RAM window of a banked cartridge, by the bank selected and the latch (R250, R252, R254, R255). -/
theorem ramIndex_banked {c : Cartridge} (h : c.mapper ≠ .noBank) (o : Nat) :
    c.ramIndex o = if c.mapper.ramEnabled = true ∧ c.nRam ≠ 0
      then some (c.mapper.ramBank % c.nRam * c.sRam + o % c.sRam) else none := by
  unfold Cartridge.ramIndex
  cases hm : c.mapper with
  | noBank => exact absurd hm h
  | _ => rfl

/-- Settles O48: the two windows by the bank selected, and the control write field by field. -/
theorem bankControllers : Obligations.BankControllers := by
  unfold Obligations.BankControllers
  refine fun c zeroIsOne n o v _ _ => ⟨fun h => ?_, fun en low5 ext2 mode1 h => ?_, fun en rom7 ram4 h => ?_,
    fun en lo hi ram4 h => ?_⟩
  · rw [Cartridge.romIndex, Cartridge.ramIndex, h]
    exact ⟨rfl, rfl, rfl⟩
  all_goals
    have hbanked : c.mapper ≠ .noBank := by rw [h]; exact Mapper.noConfusion
    rw [romIndex_banked hbanked, ramIndex_banked hbanked, h]
  · refine ⟨?_, ?_, ?_⟩
    · cases mode1 with
      | false => rw [Mapper.romBank, Nat.mul_comm ext2.toNat]; rfl
      | true => rfl
    · cases mode1 <;> rfl
    · simp only [Mapper.control, variantAWrite, ramEnableValue_eq, lowBit_eq, setWidth_eq_ofNat_mod 5, setWidth_eq_ofNat_mod 2,
        ofNat_mod_eq_zero_iff]
      rfl
  · refine ⟨rfl, rfl, ?_⟩
    simp only [Mapper.control, variantBWrite, ramEnableValue_eq, setWidth_eq_ofNat_mod 7, setWidth_eq_ofNat_mod 4,
      ofNat_mod_eq_zero_iff]
    rfl
  · refine ⟨?_, rfl, ?_⟩
    · rw [Mapper.romBank, Nat.mul_comm hi.toNat]
    · simp only [Mapper.control, variantCWrite, ramEnableValue_eq, setWidth_eq_ofNat_mod 1, setWidth_eq_ofNat_mod 4, Nat.reducePow]

end Sys2Proof.Machine
end

section
/-! SUPPORT. What is fixed for the life of a run (20_memory.md R257, 10_state.md R109): through the moves of the CPU, the key
events and the peripherals; and the one instruction that changes the speed (O39). -/

namespace Sys2Proof.Machine

/-! ## The fixed fields -/

/-- m' has m's mode, boot ROM and cartridge, apart from the RAM's bytes and the selectors' values (R257); boot mode can only
end (R10, R151). -/
structure Mmu.Fixed (m m' : Mmu) : Prop where
  cgb : m'.cgb = m.cgb
  bootRom : m'.bootRom = m.bootRom
  rom : m'.cart.rom = m.cart.rom
  nRom : m'.cart.nRom = m.cart.nRom
  nRam : m'.cart.nRam = m.cart.nRam
  sRam : m'.cart.sRam = m.cart.sRam
  variant : m'.cart.mapper.variant = m.cart.mapper.variant
  boot : m.bootMode = false → m'.bootMode = false

theorem Mmu.Fixed.refl (m : Mmu) : m.Fixed m := ⟨rfl, rfl, rfl, rfl, rfl, rfl, rfl, id⟩

theorem Mmu.Fixed.trans {m m' m'' : Mmu} (h : m.Fixed m') (h' : m'.Fixed m'') : m.Fixed m'' :=
  ⟨h'.cgb.trans h.cgb, h'.bootRom.trans h.bootRom, h'.rom.trans h.rom, h'.nRom.trans h.nRom, h'.nRam.trans h.nRam,
    h'.sRam.trans h.sRam, h'.variant.trans h.variant, fun hb => h'.boot (h.boot hb)⟩

/-! ## A store -/

/-- A control write changes the selectors' values, never the variant. -/
theorem control_variant (z : Bool) (p : Mapper) (n : Nat) (v : Byte) : (p.control z n v).variant = p.variant := by
  cases p with
  | noBank => rfl
  | variantA => simp only [Mapper.control]; unfold variantAWrite; split_ifs <;> rfl
  | variantB => simp only [Mapper.control]; unfold variantBWrite; split_ifs <;> rfl
  | variantC => simp only [Mapper.control]; unfold variantCWrite; split_ifs <;> rfl

/-- A write to the I/O page changes neither the fixed fields nor the speed: KEY1 takes the arming only (R127). -/
theorem ioWrite_fixed (m : Mmu) (k : Nat) (v : Byte) : m.Fixed (m.ioWrite k v) ∧ (m.ioWrite k v).doubleSpeed = m.doubleSpeed := by
  unfold Mmu.ioWrite
  cases ioReg m.cgb k with
  | boot => exact ⟨⟨rfl, rfl, rfl, rfl, rfl, rfl, rfl, fun _ => rfl⟩, rfl⟩
  | _ => exact ⟨⟨rfl, rfl, rfl, rfl, rfl, rfl, rfl, id⟩, rfl⟩

theorem write_fixed (m : Mmu) (cfg : Config) (a : Word) (v : Byte) :
    m.Fixed (m.write cfg a v) ∧ (m.write cfg a v).doubleSpeed = m.doubleSpeed := by
  unfold Mmu.write
  split
  · exact ⟨⟨rfl, rfl, rfl, rfl, rfl, rfl, control_variant _ _ _ _, id⟩, rfl⟩
  · cases m.locate a with
    | io k => exact ioWrite_fixed m k v
    | _ => exact ⟨⟨rfl, rfl, rfl, rfl, rfl, rfl, rfl, id⟩, rfl⟩

/-! ## The moves of the CPU -/

/-- The parameters and the fixed fields of the MMU. -/
def State.Fixed (s t : State) : Prop := t.config = s.config ∧ s.mmu.Fixed t.mmu

theorem move_fixed {w : Bool} {s t : State} (h : Move w s t) : s.Fixed t := by
  cases h with
  | store a v _ => exact ⟨rfl, (write_fixed s.mmu s.config a v).1⟩
  | _ => exact ⟨rfl, ⟨rfl, rfl, rfl, rfl, rfl, rfl, rfl, id⟩⟩

theorem moves_fixed {w : Bool} {s t : State} (h : Moves w s t) : s.Fixed t :=
  h.keeps (P := s.Fixed) (fun _ _ hm ⟨hcfg, hmmu⟩ => ⟨(move_fixed hm).1.trans hcfg, hmmu.trans (move_fixed hm).2⟩)
    ⟨rfl, .refl _⟩

theorem move_doubleSpeed {s t : State} (h : Move false s t) : t.mmu.doubleSpeed = s.mmu.doubleSpeed := by
  cases h with
  | store a v _ => exact (write_fixed s.mmu s.config a v).2
  | switchSpeed hw _ => cases hw
  | _ => rfl

theorem moves_doubleSpeed {s t : State} (h : Moves false s t) : t.mmu.doubleSpeed = s.mmu.doubleSpeed :=
  h.keeps (P := fun u => u.mmu.doubleSpeed = s.mmu.doubleSpeed) (fun _ _ hm hs => (move_doubleSpeed hm).trans hs) rfl

/-! ## The peripherals and the key events -/

theorem oamDmaLoop_frame (cfg : Config) (n : Nat) :
    ∀ m : Mmu, ∃ oam d, Mmu.oamDmaLoop cfg n m = { m with video := { m.video with oam := oam }, oamDma := d } := by
  induction n with
  | zero => exact fun m => ⟨m.video.oam, m.oamDma, rfl⟩
  | succ n ih =>
    intro m
    unfold Mmu.oamDmaLoop
    split
    · obtain ⟨oam, d, e⟩ := ih (m.oamDmaByte cfg)
      exact ⟨oam, d, e⟩
    · exact ⟨m.video.oam, m.oamDma, rfl⟩

theorem oamDmaStep_frame (m : Mmu) (cfg : Config) (c : Nat) :
    ∃ oam d, m.oamDmaStep cfg c = { m with video := { m.video with oam := oam }, oamDma := d } := by
  unfold Mmu.oamDmaStep
  split
  · obtain ⟨oam, d, e⟩ := oamDmaLoop_frame cfg 160 { m with oamDma := { m.oamDma with acc := m.oamDma.acc + c } }
    simp only [e]
    split
    · exact ⟨oam, { d with active := false }, rfl⟩
    · exact ⟨oam, d, rfl⟩
  · exact ⟨m.video.oam, m.oamDma, rfl⟩

theorem hdmaLoop_frame (cfg : Config) (n : Nat) :
    ∀ (i : Nat) (m : Mmu), ∃ vram, Mmu.hdmaLoop cfg n i m = { m with video := { m.video with vram := vram } } := by
  induction n with
  | zero => exact fun i m => ⟨m.video.vram, rfl⟩
  | succ n ih =>
    intro i m
    obtain ⟨vram, e⟩ := ih (i + 1) (m.hdmaByte cfg i)
    exact ⟨vram, e⟩

theorem hdmaStep_frame (m : Mmu) (cfg : Config) :
    ∃ vram d, m.hdmaStep cfg = { m with video := { m.video with vram := vram }, hdma := d } := by
  unfold Mmu.hdmaStep
  split
  · obtain ⟨vram, e⟩ := hdmaLoop_frame cfg m.hdma.len 0 m
    simp only [e]
    exact ⟨vram, { m.hdma with len := 0, armed := false }, rfl⟩
  · exact ⟨m.video.vram, m.hdma, rfl⟩

/-- `mmu_step` writes the devices' state and the requests, and nothing else. -/
theorem mmuStep_frame (m : Mmu) (cfg : Config) (c : Nat) :
    ∃ video timer joypad oamDma hdma intFlag, m.step cfg c =
      { m with video := video, timer := timer, joypad := joypad, oamDma := oamDma, hdma := hdma, intFlag := intFlag } := by
  obtain ⟨oam, d, hoam⟩ :=
    oamDmaStep_frame { m.collectRequests with timer := m.collectRequests.timer.step c } cfg c
  obtain ⟨vram, h, hhdma⟩ := hdmaStep_frame { m.collectRequests with
    timer := m.collectRequests.timer.step c, video := { m.collectRequests.video with oam := oam }, oamDma := d } cfg
  unfold Mmu.step
  simp only [hoam]
  exact ⟨_, _, _, _, _, _, hhdma⟩

/-- The peripherals write the devices' state, the requests and the calls to the host, and nothing else. -/
theorem peripherals_frame (m : Mmu) (cfg : Config) (ds : Bool) (c : Nat) :
    ∃ video timer joypad oamDma hdma intFlag outputs, m.peripherals cfg ds c =
      { m with video := video, timer := timer, joypad := joypad, oamDma := oamDma, hdma := hdma, intFlag := intFlag,
               outputs := outputs } := by
  obtain ⟨video, timer, joypad, oamDma, hdma, intFlag, h⟩ := mmuStep_frame (m.videoStep cfg (bif ds then c / 2 else c)) cfg c
  exact ⟨video, timer, joypad, oamDma, hdma, intFlag, _, h⟩

theorem afterCycles_fixed (s : State) (ds : Bool) :
    s.Fixed (s.afterCycles ds) ∧ (s.afterCycles ds).mmu.doubleSpeed = s.mmu.doubleSpeed := by
  unfold State.afterCycles
  split
  · exact ⟨⟨rfl, .refl _⟩, rfl⟩
  · obtain ⟨video, timer, joypad, oamDma, hdma, intFlag, outputs, e⟩ := peripherals_frame s.mmu s.config ds s.cost
    rw [e]
    exact ⟨⟨rfl, ⟨rfl, rfl, rfl, rfl, rfl, rfl, rfl, id⟩⟩, rfl⟩

theorem takeKeyEvents_fixed (s : State) :
    s.Fixed s.takeKeyEvents ∧ s.takeKeyEvents.mmu.doubleSpeed = s.mmu.doubleSpeed := by
  unfold State.takeKeyEvents
  split <;> exact ⟨⟨rfl, ⟨rfl, rfl, rfl, rfl, rfl, rfl, rfl, id⟩⟩, rfl⟩

/-! ## The speed -/

/-- STOP switches the speed only in CGB mode with KEY1.0 set (R572). -/
theorem stopCpu_doubleSpeed {s : State} (h : (stopCpu s).mmu.doubleSpeed ≠ s.mmu.doubleSpeed) :
    s.mmu.cgb = true ∧ s.mmu.key1Armed = true := by
  unfold stopCpu at h
  cases hcgb : s.mmu.cgb <;> cases harmed : s.mmu.key1Armed <;> simp [hcgb, harmed, skipStopByte_mmu] at h ⊢

theorem fetchExec_doubleSpeed {s t : State} (h : s.fetchExec = .next t) (hne : t.mmu.doubleSpeed ≠ s.mmu.doubleSpeed) :
    decodeBytes (s.read s.pc) (s.read (s.pc + 1)) (s.read (s.pc + 2)) = .stop ∧ s.mmu.cgb = true ∧ s.mmu.key1Armed = true := by
  unfold State.fetchExec at h
  by_cases hi : s.fetchInstr.1 = .stop
  · rw [hi] at h
    cases h
    exact ⟨hi, stopCpu_doubleSpeed (s := s.fetchInstr.2) hne⟩
  · obtain ⟨u, hu, -, hmoves⟩ := exec_moves s.fetchInstr.2 s.fetchInstr.1
    rw [hu] at h
    cases h
    exact absurd (moves_doubleSpeed (hmoves hi)) hne

/-- The state a unit of `step_cycles` fetches in, if it fetches: the pending enable applied and the debugger done (R612). -/
def State.atFetch (s : State) : State := s.applyPendingEnable.debugHook

theorem atFetch_moves {w : Bool} (s : State) : Moves w s s.atFetch := (applyPendingEnable_moves s).trans (debugHook_moves _)

theorem runOne_cases {s t : State} (h : s.runOne = .next t) : Moves false s t ∨ s.atFetch.fetchExec = .next t := by
  unfold State.runOne at h
  split_ifs at h
  · cases h; exact .inl (tick_moves s 4)
  · cases h; exact .inl (atFetch_moves s)
  · exact .inr h

/-- A unit of `step_cycles` executes an instruction, or makes moves that leave the speed (R605, R612). -/
theorem stepCycles_cases {s t : State} (h : s.stepCycles = .next t) : Moves false s t ∨ s.atFetch.fetchExec = .next t := by
  unfold State.stepCycles at h
  split at h
  · split_ifs at h
    · cases h; exact .inl (takeInterrupt_moves s _)
    · cases h; exact .inl ((Moves.one (.halted s false)).trans (tick_moves _ _))
    · exact runOne_cases h
  · exact runOne_cases h

theorem stepCycles_doubleSpeed {s t : State} (h : s.stepCycles = .next t) (hne : t.mmu.doubleSpeed ≠ s.mmu.doubleSpeed) :
    decodeBytes (s.atFetch.read s.atFetch.pc) (s.atFetch.read (s.atFetch.pc + 1)) (s.atFetch.read (s.atFetch.pc + 2)) = .stop ∧
      s.atFetch.mmu.cgb = true ∧ s.atFetch.mmu.key1Armed = true := by
  rcases stepCycles_cases h with hmoves | hexec
  · exact absurd (moves_doubleSpeed hmoves) hne
  · exact fetchExec_doubleSpeed hexec (moves_doubleSpeed (atFetch_moves s) ▸ hne)

theorem read_key1_bit7 {s : State} (h : s.mmu.cgb = true) : (s.read 0xFF4D).getLsbD 7 = s.mmu.doubleSpeed := by
  have hread : s.read 0xFF4D = (if s.mmu.doubleSpeed then 0x80#8 else 0) ||| 0x7E#8 ||| (if s.mmu.key1Armed then 1#8 else 0) := by
    simp [State.read_ioPage, Mmu.ioRead, ioReg, h, ioRegCgb, key1Byte]
  rw [hread]
  cases s.mmu.doubleSpeed <;> cases s.mmu.key1Armed <;> rfl

/-- Settles O39: key events, moves and peripherals keep the fixed fields, and of the moves only an armed STOP's changes the
speed. -/
theorem fixedForLife : Obligations.FixedForLife := by
  unfold Obligations.FixedForLife
  refine ⟨fun s t h => ?_, fun s => read_key1_bit7, rfl⟩
  obtain ⟨-, u, hu, hmoves, rfl⟩ := step_cases h
  obtain ⟨⟨hcfg₁, hmmu₁⟩, hspeed₁⟩ := takeKeyEvents_fixed s
  obtain ⟨hcfg₂, hmmu₂⟩ := moves_fixed hmoves
  obtain ⟨⟨hcfg₃, hmmu₃⟩, hspeed₃⟩ := afterCycles_fixed u s.mmu.doubleSpeed
  obtain ⟨hcgb, hbootRom, hrom, hnRom, hnRam, hsRam, hvariant, hboot⟩ := (hmmu₁.trans hmmu₂).trans hmmu₃
  refine ⟨(hcfg₃.trans hcfg₂).trans hcfg₁, hcgb, hbootRom, hrom, hnRom, hnRam, hsRam, hvariant, hboot, fun hne => ?_⟩
  rw [hspeed₃, ← hspeed₁] at hne
  exact ⟨_, rfl, stepCycles_doubleSpeed hu hne⟩

end Sys2Proof.Machine
end

section
/-! SUPPORT. Decoding and encoding (30_encoding.md): the two agree, both ways (O35), the eleven illegal values (O31), and words
written out from their fields (O34). -/

namespace Sys2Proof

open Machine

/-! ## The decoder on a byte string -/

/-- A byte string that holds the length its first byte announces is decoded from that length (R300). -/
theorem decode_cons {b : Byte} {tail : List Byte} (h : instrLength b ≤ tail.length + 1) :
    decode (b :: tail) = .ok (decodeBytes b (tail.getD 0 0) (tail.getD 1 0), tail.drop (instrLength b - 1)) :=
  if_neg (by omega)

/-- A byte string shorter than the length its first byte announces is refused (assumption 19). -/
theorem decode_cons_truncated {b : Byte} {tail : List Byte} (h : tail.length + 1 < instrLength b) :
    decode (b :: tail) = .error .truncated :=
  if_pos h

theorem instrLength_cases : ∀ b : Byte, instrLength b = 1 ∨ instrLength b = 2 ∨ instrLength b = 3 := by decide

/-! ## From bytes to an instruction and back -/

theorem decodeBytes_cb (b2 b3 : Byte) : decodeBytes 0xCB b2 b3 = cbCell b2 := if_pos rfl

theorem decodeBytes_base {b : Byte} (h : b ≠ 0xCB) (b2 b3 : Byte) : decodeBytes b b2 b3 = baseCell b b2 (word16 b3 b2) :=
  if_neg h

/-- Every cell of the CB map encodes as 0xCB and its own byte (R315). -/
theorem encode_cbCell : ∀ b : Byte, encode (cbCell b) = [0xCB, b] := by decide

/-- The opcode bytes of row `hi` of the base map (R314), 0xCB left out. -/
def rowOpcodes (hi : Nat) : List Byte := ((List.range' (16 * hi) 16).map (BitVec.ofNat 8)).filter (· ≠ 0xCB)

theorem mem_rowOpcodes {b : Byte} (h : b ≠ 0xCB) : b ∈ rowOpcodes (b.toNat / 16) := by
  refine List.mem_filter.mpr ⟨List.mem_map.mpr ⟨b.toNat, ?_, BitVec.eq_of_toNat_eq (by simp)⟩, decide_eq_true h⟩
  rw [List.mem_range'_1]
  omega

/-- A row of the base map, cell by cell: the encoding is the opcode byte and the operand bytes its length leaves (R314). -/
theorem encode_baseRow (nn : Word) {hi : Nat} (h : hi < 16) :
    (rowOpcodes hi).map (fun b => encode (baseCell b (lo8 nn) nn)) =
      (rowOpcodes hi).map (fun b => [b, lo8 nn, hi8 nn].take (instrLength b)) := by
  interval_cases hi <;> rfl

theorem encode_baseCell (nn : Word) {b : Byte} (h : b ≠ 0xCB) :
    encode (baseCell b (lo8 nn) nn) = [b, lo8 nn, hi8 nn].take (instrLength b) :=
  List.map_inj_left.mp (encode_baseRow nn (by omega)) b (mem_rowOpcodes h)

theorem encode_decodeBytes (b b2 b3 : Byte) : encode (decodeBytes b b2 b3) = [b, b2, b3].take (instrLength b) := by
  by_cases h : b = 0xCB
  · subst h
    rw [decodeBytes_cb, encode_cbCell]
    rfl
  · have hcell := encode_baseCell (word16 b3 b2) h
    rwa [lo8_word16, hi8_word16, ← decodeBytes_base h] at hcell

theorem Instr.wellFormed_iff (i : Instr) : i.wellFormed = true ↔ i ≠ .cb_prefix := by
  cases i
  case cb_prefix => exact ⟨Bool.noConfusion, absurd rfl⟩
  all_goals exact ⟨fun _ => Instr.noConfusion, fun _ => rfl⟩

/-- No bytes decode to 0xCB alone: it would encode as one byte, and a first byte 0xCB announces two (R300, R301). -/
theorem decodeBytes_wellFormed (b b2 b3 : Byte) : (decodeBytes b b2 b3).wellFormed = true := by
  refine (Instr.wellFormed_iff _).mpr fun hcb => ?_
  have henc := encode_decodeBytes b b2 b3
  rw [hcb] at henc
  rcases instrLength_cases b with hone | htwo | hthree
  · rw [hone] at henc
    cases henc
    exact absurd hone (by decide)
  · rw [htwo] at henc
    cases henc
  · rw [hthree] at henc
    cases henc

/-! ## From an instruction to bytes and back -/

/-- The family EncodedLength, for every instruction. -/
theorem encodedLength (i : Instr) : Laws.EncodedLength.Statement i := by
  cases i
  case cb_prefix => exact Laws.EncodedLength.cb_prefix
  all_goals exact fun _ => ⟨_, _, rfl, rfl⟩

/-- Three bytes that begin with an instruction's encoding decode to it, whatever the bytes after the encoding. The
instructions with a 16-bit operand turn on its two bytes giving it back. -/
theorem decodeBytes_of_encode {i : Instr} {b b2 b3 : Byte} (hwf : i.wellFormed = true)
    (h : encode i = [b, b2, b3].take (encode i).length) : decodeBytes b b2 b3 = i := by
  cases i
  case cb_prefix => exact Bool.noConfusion hwf
  case ld_BC_n16 nn | ld_DE_n16 nn | ld_HL_n16 nn | ld_SP_n16 nn | ld_mN16_SP nn | ld_mN16_A nn | ld_A_mN16 nn | jp_n16 nn
      | jp_NZ_n16 nn | jp_Z_n16 nn | jp_NC_n16 nn | jp_C_n16 nn | call_n16 nn | call_NZ_n16 nn | call_Z_n16 nn
      | call_NC_n16 nn | call_C_n16 nn =>
    cases h
    exact congrArg _ (word16_hi8_lo8 nn)
  all_goals cases h; rfl

/-- Operand bytes are the first of the bytes the decoder looks at, of which there are two. -/
theorem operands_eq_take {ops : List Byte} (h : ops.length ≤ 2) (rest : List Byte) :
    ops = [(ops ++ rest).getD 0 0, (ops ++ rest).getD 1 0].take ops.length := by
  match ops, h with
  | [], _ => rfl
  | [_], _ => rfl
  | [_, _], _ => rfl

theorem decode_encode {i : Instr} (hwf : i.wellFormed = true) (rest : List Byte) :
    decode (encode i ++ rest) = .ok (i, rest) := by
  obtain ⟨b, ops, henc, hlen⟩ := encodedLength i hwf
  rw [henc, List.length_cons] at hlen
  have hops : ops.length ≤ 2 := by have := instrLength_cases b; omega
  have hdec : decodeBytes b ((ops ++ rest).getD 0 0) ((ops ++ rest).getD 1 0) = i :=
    decodeBytes_of_encode hwf (by rw [henc]; exact congrArg (b :: ·) (operands_eq_take hops rest))
  rw [henc, List.cons_append, decode_cons (by rw [List.length_append]; omega), hdec, ← hlen, Nat.add_sub_cancel, List.drop_left]

/-- Settles O35: an instruction is read back from its bytes case by case; the other way, row by row of the two maps. -/
theorem encodeDecode : Obligations.EncodeDecode := by
  unfold Obligations.EncodeDecode
  exact ⟨fun _ rest hwf => decode_encode hwf rest,
    fun b b2 b3 => ⟨decodeBytes_wellFormed b b2 b3, encode_decodeBytes b b2 b3, instrLength_cases b⟩⟩

/-! ## The illegal values -/

theorem decodeBytes_illegal {op : Byte} {i : Instr} (h : (op, i) ∈ rowsIllegal) (b2 b3 : Byte) : decodeBytes op b2 b3 = i := by
  fin_cases h <;> rfl

theorem exec_illegal {op : Byte} {i : Instr} (h : (op, i) ∈ rowsIllegal) (s : State) : exec i s = .next (illegal op s) := by
  fin_cases h <;> rfl

/-- Settles O31: each of the eleven raises F1 with its own opcode, and `raise` writes the fault record alone. -/
theorem illegalOpcodes : Obligations.IllegalOpcodes := by
  unfold Obligations.IllegalOpcodes
  exact fun op i h => ⟨decodeBytes_illegal h, fun s => ⟨illegal op s, exec_illegal h s, rfl, s.raise_read _⟩⟩

/-! ## Words written out -/

/-- Settles O34: each word by evaluation of the decoder, and the cut-off strings by the length their first byte announces. -/
theorem decodeWords : Obligations.DecodeWords := by
  unfold Obligations.DecodeWords
  refine ⟨fun nbits w i h => ?_, rfl, decode_cons_truncated (by decide), decode_cons_truncated (by decide)⟩
  fin_cases h <;> rfl

end Sys2Proof
end

section
/-! SUPPORT. What an instruction leaves unchanged, its stores made in sequence, and that neighbouring addresses of plain storage
are different bytes. -/

namespace Sys2Proof.Machine

variable {s t u : State}

/-! ## Frames of the registers -/

theorem State.reg8_of_regs (h : t.regs = s.regs) (y : Reg8) : t.reg8 y = s.reg8 y := by
  unfold State.reg8; rw [h]

theorem State.keepsRegs_of_regs (h : t.regs = s.regs) : s.keepsRegs t [] := fun y _ => State.reg8_of_regs h y

theorem State.keepsRegs_trans {w w' : List Reg8} (h : s.keepsRegs t w) (h' : t.keepsRegs u w') : s.keepsRegs u (w ++ w') := by
  intro y hy
  rw [List.mem_append, not_or] at hy
  exact (h' y hy.2).trans (h y hy.1)

theorem State.setReg8_keepsRegs (s : State) (x : Reg8) (v : Byte) : s.keepsRegs (s.setReg8 x v) [x] := by
  intro y hy
  rw [State.reg8_setReg8, if_neg (List.mem_singleton.not.1 hy)]

/-- A pair's halves are all that a write of the pair changes (R101). -/
theorem State.setPair_keepsRegs (s : State) (p : Pair) (v : Word) : s.keepsRegs (s.setPair p v) p.halves := by
  intro y hy
  cases p <;> cases y <;> simp [Pair.halves] at hy <;> rfl

theorem State.setPair_f (s : State) (p : Pair) (v : Word) : (s.setPair p v).regs.f = s.regs.f := by
  cases p <;> rfl

theorem State.setPair_sp (s : State) {p : Pair} (h : p ≠ .sp) (v : Word) : (s.setPair p v).sp = s.sp := by
  cases p with
  | sp => exact absurd rfl h
  | _ => rfl

theorem State.setStackPair_f (s : State) {p : StackPair} (h : p ≠ .af) (v : Word) :
    (s.setStackPair p v).regs.f = s.regs.f := by
  cases p with
  | af => exact absurd rfl h
  | _ => rfl

/-- Of the 8-bit registers a write of AF changes A alone; F is no `Reg8` (R102). -/
theorem State.setAF_keepsRegs (s : State) (v : Word) : s.keepsRegs (s.setAF v) [.a] := by
  intro y hy
  cases y with
  | a => exact absurd (List.mem_singleton_self _) hy
  | _ => rfl

/-! ## Frames of memory -/

/-- What writes the registers, SP, PC and the cost alone leaves every byte of memory. -/
theorem State.keepsRest_of_eq (h : t = { s with regs := t.regs, sp := t.sp, pc := t.pc, cost := t.cost }) : s.keepsRest t :=
  ⟨h, fun x => by rw [h]; rfl⟩

/-- Stores change the MMU alone. -/
theorem State.storeList_eq (stores : List (Word × Byte)) :
    ∀ s : State, State.storeList stores s = { s with mmu := (State.storeList stores s).mmu } := by
  induction stores with
  | nil => exact fun _ => rfl
  | cons st rest ih => exact fun s => ih (s.store st.1 st.2)

theorem State.storeList_read_frame {x : Word} (stores : List (Word × Byte)) :
    ∀ {s : State}, State.storesTouch stores s x = false → (State.storeList stores s).read x = s.read x := by
  induction stores with
  | nil => exact fun _ => rfl
  | cons st rest ih =>
    intro s h
    obtain ⟨hfirst, hrest⟩ := Bool.or_eq_false_iff.1 h
    exact (ih hrest).trans (s.store_read_frame st.1 x st.2 hfirst)

/-- What makes the stores and writes the registers, SP, PC and the cost besides leaves every byte that no store touches. -/
theorem State.keepsRestBut_of_eq {stores : List (Word × Byte)}
    (h : t = { State.storeList stores s with regs := t.regs, sp := t.sp, pc := t.pc, cost := t.cost }) :
    s.keepsRestBut stores t := by
  have hmmu : t.mmu = (State.storeList stores s).mmu := by rw [h]
  refine ⟨?_, hmmu, fun x hx => ?_⟩
  · rw [State.storeList_eq] at h
    rw [hmmu]
    exact h
  · have hread : t.read x = (State.storeList stores s).read x := by rw [h]; rfl
    exact hread.trans (State.storeList_read_frame stores hx)

/-- What stores do with SP and the cost besides: no register and no flag is written. -/
theorem State.frame_of_stores {stores : List (Word × Byte)} {sp : Word} {k : Nat}
    (h : t = { State.storeList stores s with sp := sp, cost := k }) :
    s.keepsRegs t [] ∧ s.keepsFlags t ∧ t.sp = sp ∧ t.pc = s.pc ∧ t.cost = k ∧ s.keepsRestBut stores t := by
  have hregs : t.regs = s.regs := by rw [h, State.storeList_eq]
  refine ⟨State.keepsRegs_of_regs hregs, congrArg Regs.f hregs, by rw [h], by rw [h, State.storeList_eq], by rw [h], ?_⟩
  exact State.keepsRestBut_of_eq (by rw [h])

/-! ## Stores that are not fatal -/

theorem State.memWrite_of_not_fatal {a : Word} {v : Byte} (h : s.mmu.hblankDmaRequest a v = false) (k : State → State) :
    s.memWrite a v k = k (s.store a v) :=
  if_neg (by rw [h]; decide)

theorem State.storesFatal_singleton {a : Word} {v : Byte} :
    s.storesFatal [(a, v)] = false ↔ s.mmu.hblankDmaRequest a v = false := by
  simp [State.storesFatal]

theorem State.storesFatal_pair {a b : Word} {v w : Byte} : s.storesFatal [(a, v), (b, w)] = false ↔
    s.mmu.hblankDmaRequest a v = false ∧ (s.store a v).mmu.hblankDmaRequest b w = false := by
  simp [State.storesFatal]

theorem hi8_eq (w : Word) : hi8 w = (w >>> 8).setWidth 8 := by
  ext i hi; simp [hi8]

theorem lo8_eq (w : Word) : lo8 w = w.setWidth 8 := rfl

theorem pushStores_eq (sp v : Word) : pushStores sp v = [(sp - 1, hi8 v), (sp - 2, lo8 v)] := by
  rw [pushStores, hi8_eq, lo8_eq]

/-- A push whose stores are not fatal makes them and moves SP two down (R15). -/
theorem State.push16_of_not_fatal {v : Word} (h : s.storesFatal (pushStores s.sp v) = false) (k : State → State) :
    s.push16 v k = k ((State.storeList (pushStores s.sp v) s).setSP (s.sp - 2)) := by
  have hsp : s.sp - 1 - 1 = s.sp - 2 := by bv_omega
  rw [pushStores_eq] at h ⊢
  obtain ⟨hhigh, hlow⟩ := State.storesFatal_pair.1 h
  calc s.push16 v k
      = (((s.setSP (s.sp - 1)).store (s.sp - 1) (hi8 v)).setSP (s.sp - 1 - 1)).memWrite (s.sp - 1 - 1) (lo8 v) k :=
        State.memWrite_of_not_fatal (s := s.setSP (s.sp - 1)) hhigh _
    _ = k ((State.storeList [(s.sp - 1, hi8 v), (s.sp - 2, lo8 v)] s).setSP (s.sp - 2)) := by
        rw [hsp]; exact State.memWrite_of_not_fatal (s := ((s.setSP (s.sp - 1)).store _ _).setSP (s.sp - 2)) hlow k

/-! ## Plain storage -/

/-- A store to plain storage is not the fatal one: HDMA5 is a register of CGB mode (R675). -/
theorem Mmu.not_fatal_of_holds {m : Mmu} {a : Word} (h : m.holds a = true) (v : Byte) : m.hblankDmaRequest a v = false := by
  by_contra hfatal
  simp only [Mmu.hblankDmaRequest, Bool.not_eq_false, Bool.and_eq_true, beq_iff_eq] at hfatal
  obtain ⟨⟨hcgb, rfl⟩, -⟩ := hfatal
  simp [Mmu.holds, locate_ioPage, ioReg, ioRegCgb, hcgb] at h

theorem State.store_read_same {a : Word} (v : Byte) (h : s.mmu.holds a = true) : (s.store a v).read a = v :=
  Mmu.write_read_same h

/-- A bank of external RAM is of an even size, so a byte's index has the parity of its offset in the window. -/
theorem Cartridge.ramIndex_parity {c : Cartridge} {z : Bool} (hc : c.inv z) {o k : Nat} (h : c.ramIndex o = some k) :
    k % 2 = o % 2 := by
  obtain ⟨-, -, -, -, hsize, -⟩ := hc
  by_cases hbank : c.mapper = .noBank
  · rw [Cartridge.ramIndex, hbank] at h
    cases h
    rfl
  · rw [ramIndex_banked hbank] at h
    split at h
    · next hram =>
      cases h
      rcases hsize hram.2 with e | e <;> rw [e] <;> omega
    · cases h

/-- The index of a byte in its storage array; IE, at the odd address 0xFFFF, counts as an odd one. -/
def Loc.index : Loc → Nat
  | .boot k | .rom k | .vram k | .extRam k | .wram k | .oam k | .io k | .hram k => k
  | .noRam | .unusable => 0
  | .ie => 1

/-- Every window starts at an even address and shows an even index first. -/
theorem locate_parity {m : Mmu} {a : Word} {z : Bool} (hc : m.cart.inv z) (h : m.holds a = true) :
    (m.locate a).index % 2 = a.toNat % 2 := by
  have hecho : unecho a.toNat % 2 = a.toNat % 2 := by unfold unecho; split <;> omega
  have hunusable : m.locate a ≠ .unusable := fun e => by simp [Mmu.holds, e] at h
  have hnoRam : m.locate a ≠ .noRam := fun e => by simp [Mmu.holds, e] at h
  have hrom := (locate_high (m := m) (Nat.not_lt.1 (Mmu.holds_high h))).2
  rcases locate_cases m a with ⟨-, -, e⟩ | ⟨-, ⟨-, e⟩ | ⟨h1, -, e⟩ | ⟨h1, -, e⟩ | ⟨h1, -, e⟩ | ⟨h1, -, e⟩ | ⟨h1, -, e⟩ |
    ⟨-, -, e⟩ | ⟨h1, -, e⟩ | ⟨h1, -, e⟩ | ⟨h1, e⟩⟩
  case inr.inl => exact absurd e (hrom _)
  case inr.inr.inr.inl =>
    rw [Cartridge.ramLoc] at e
    split at e
    · next k hk =>
      have hparity := Cartridge.ramIndex_parity hc hk
      rw [e, Loc.index]; omega
    · exact absurd e hnoRam
  case inr.inr.inr.inr.inr.inr.inr.inl => exact absurd e hunusable
  all_goals rw [e, Loc.index]; omega

/-- The two bytes of a stack slot are different bytes of storage. -/
theorem locate_pushed_ne {m : Mmu} {sp : Word} {z : Bool} (hc : m.cart.inv z) (hhigh : m.holds (sp - 1) = true)
    (hlow : m.holds (sp - 2) = true) : m.locate (sp - 1) ≠ m.locate (sp - 2) := by
  intro e
  have hp := locate_parity hc hhigh
  rw [e, locate_parity hc hlow] at hp
  bv_omega

end Sys2Proof.Machine
end

section
/-! SUPPORT. The loads, stores and stack instructions (40_loads.md R400-R424): their rows, and what each of the shared operations
does and leaves. -/

namespace Sys2Proof.Machine

/-! ## The rows -/

theorem ldRegReg_of_row {op : Byte} {i : Instr} {dst src : Reg8} (h : (op, i, dst, src) ∈ rowsLdRegReg) :
    (∀ b2 b3, decodeBytes op b2 b3 = i) ∧ ∀ s, exec i s = .next (ldRegReg dst src s) := by
  fin_cases h <;> exact ⟨fun _ _ => rfl, fun _ => rfl⟩

theorem ldRegImm_of_row {n op : Byte} {i : Instr} {dst : Reg8} (h : (op, i, dst) ∈ rowsLdRegImm n) :
    (∀ b3, decodeBytes op n b3 = i) ∧ ∀ s, exec i s = .next (ldRegImm dst n s) := by
  fin_cases h <;> exact ⟨fun _ => rfl, fun _ => rfl⟩

theorem ldRegMem_of_row {op : Byte} {i : Instr} {dst : Reg8} (h : (op, i, dst) ∈ rowsLdRegMem) :
    (∀ b2 b3, decodeBytes op b2 b3 = i) ∧ ∀ s, exec i s = .next (ldRegMem dst s) := by
  fin_cases h <;> exact ⟨fun _ _ => rfl, fun _ => rfl⟩

theorem ldPairImm_of_row {b2 b3 op : Byte} {i : Instr} {p : Pair} (h : (op, i, p) ∈ rowsLdPairImm (word16 b3 b2)) :
    decodeBytes op b2 b3 = i ∧ ∀ s, exec i s = .next (ldPairImm p (word16 b3 b2) s) := by
  fin_cases h <;> exact ⟨rfl, fun _ => rfl⟩

theorem push_of_row {op : Byte} {i : Instr} {p : StackPair} (h : (op, i, p) ∈ rowsPush) :
    (∀ b2 b3, decodeBytes op b2 b3 = i) ∧ ∀ s, exec i s = .next (push p s) := by
  fin_cases h <;> exact ⟨fun _ _ => rfl, fun _ => rfl⟩

theorem pop_of_row {op : Byte} {i : Instr} {p : StackPair} (h : (op, i, p) ∈ rowsPop) :
    (∀ b2 b3, decodeBytes op b2 b3 = i) ∧ ∀ s, exec i s = .next (pop p s) := by
  fin_cases h <;> exact ⟨fun _ _ => rfl, fun _ => rfl⟩

/-- The high page in plain arithmetic (R310). -/
theorem highPage_eq (n : Byte) : highPage n = 0xFF00 + n.setWidth 16 := by
  revert n; decide

/-- Every one-byte store is one `memWrite`; the high-page forms have their address as a concatenation (R310). -/
theorem memWrite_of_row {b2 b3 op : Byte} {i : Instr} {addr : State → Word} {value : State → Byte} {cycles : Nat}
    (h : (op, i, addr, value, cycles) ∈ rowsStore b2 b3) :
    decodeBytes op b2 b3 = i ∧ ∀ s, exec i s = .next (s.memWrite (addr s) (value s) (·.tick cycles)) := by
  unfold rowsStore at h
  simp only [← highPage_eq] at h
  fin_cases h <;> exact ⟨rfl, fun _ => rfl⟩

/-! ## Loads -/

/-- One register written at a cost: what every 8-bit load is. -/
theorem loadReg_frame {s t : State} {x : Reg8} {v : Byte} {k : Nat} (h : t = (s.setReg8 x v).tick k) :
    t.reg8 x = v ∧ s.keepsRegs t [x] ∧ s.keepsFlags t ∧ t.sp = s.sp ∧ t.pc = s.pc ∧ t.cost = k ∧ s.keepsRest t := by
  subst h
  refine ⟨?_, ?_, Regs.set8_f _ _ _, rfl, rfl, rfl, State.keepsRest_of_eq rfl⟩
  · rw [State.reg8_tick, State.reg8_setReg8, if_pos rfl]
  · exact State.keepsRegs_trans (s.setReg8_keepsRegs x v) (State.keepsRegs_of_regs (State.tick_regs _ k))

/-- Settles O1: the three forms are one register written, with a register, the operand, or the byte at HL. -/
theorem loadToRegister : Obligations.LoadToRegister := by
  unfold Obligations.LoadToRegister
  refine ⟨fun op i dst src h => ?_, fun n op i dst h => ?_, fun op i dst h => ?_⟩
  · obtain ⟨hdec, hexec⟩ := ldRegReg_of_row h
    exact ⟨hdec, fun s => ⟨_, hexec s, loadReg_frame rfl⟩⟩
  · obtain ⟨hdec, hexec⟩ := ldRegImm_of_row h
    exact ⟨hdec, fun s => ⟨_, hexec s, loadReg_frame rfl⟩⟩
  · obtain ⟨hdec, hexec⟩ := ldRegMem_of_row h
    exact ⟨hdec, fun s => ⟨_, hexec s, loadReg_frame rfl⟩⟩

/-- Settles O2: the five forms are A written with the byte at their address. -/
theorem loadAccumulator : Obligations.LoadAccumulator := by
  unfold Obligations.LoadAccumulator
  intro b2 b3 op i addr cycles h
  obtain ⟨hdec, hexec⟩ : decodeBytes op b2 b3 = i ∧ ∀ s, exec i s = .next (ldAFrom (addr s) cycles s) := by
    simp only [← highPage_eq] at h
    fin_cases h <;> exact ⟨rfl, fun _ => rfl⟩
  exact ⟨hdec, fun s => ⟨_, hexec s, loadReg_frame (x := .a) rfl⟩⟩

/-- Settles O5: a pair or SP written. -/
theorem loadPair : Obligations.LoadPair := by
  unfold Obligations.LoadPair
  refine ⟨fun b2 b3 op i p h => ?_, fun b2 b3 => rfl, fun s => ?_⟩
  · obtain ⟨hdec, hexec⟩ := ldPairImm_of_row h
    refine ⟨hdec, fun s => ⟨_, hexec s, s.pair_setPair p _, s.setPair_keepsRegs p _, s.setPair_f p _,
      fun hp => s.setPair_sp hp _, s.setPair_pc p _, rfl, ?_⟩⟩
    cases p <;> exact State.keepsRest_of_eq rfl
  · exact ⟨_, rfl, rfl, State.keepsRegs_of_regs rfl, rfl, rfl, rfl, State.keepsRest_of_eq rfl⟩

/-! ## Stores -/

/-- Settles O3: each row is one store, which is not fatal and so is made. -/
theorem storeByte : Obligations.StoreByte := by
  unfold Obligations.StoreByte
  intro b2 b3 op i addr value cycles h
  obtain ⟨hdec, hexec⟩ := memWrite_of_row h
  refine ⟨hdec, fun s hfatal => ?_⟩
  rw [hexec, State.memWrite_of_not_fatal (State.storesFatal_singleton.1 hfatal)]
  obtain ⟨hregs, hflags, hsp, hpc, hcost, hrest⟩ := State.frame_of_stores (stores := [(addr s, value s)]) (s := s)
    (t := (s.store (addr s) (value s)).tick cycles) rfl
  exact ⟨_, rfl, hregs, hflags, hsp, hpc, hcost, hrest, fun hholds => State.store_read_same _ hholds⟩

/-- Settles O4: the access goes to HL as it was, and HL is written after it. -/
theorem loadStoreStepHL : Obligations.LoadStoreStepHL := by
  unfold Obligations.LoadStoreStepHL
  refine ⟨fun op i d h => ?_, fun op i d h => ?_⟩
  · obtain ⟨hdec, hexec⟩ : (∀ b2 b3, decodeBytes op b2 b3 = i) ∧ ∀ s, exec i s = .next (stAThenStep d s) := by
      fin_cases h <;> exact ⟨fun _ _ => rfl, fun _ => rfl⟩
    refine ⟨hdec, fun s hfatal => ⟨_, hexec s, ?_⟩⟩
    rw [stAThenStep, State.memWrite_of_not_fatal (State.storesFatal_singleton.1 hfatal)]
    exact ⟨State.hl_setHL _ _, (s.store s.hl s.regs.a).setPair_keepsRegs .hl _, rfl, rfl, rfl, rfl,
      State.keepsRestBut_of_eq rfl, fun hholds => State.store_read_same _ hholds⟩
  · obtain ⟨hdec, hexec⟩ : (∀ b2 b3, decodeBytes op b2 b3 = i) ∧ ∀ s, exec i s = .next (ldAThenStep d s) := by
      fin_cases h <;> exact ⟨fun _ _ => rfl, fun _ => rfl⟩
    exact ⟨hdec, fun s => ⟨_, hexec s, rfl, State.hl_setHL _ _,
      State.keepsRegs_trans (s.setReg8_keepsRegs .a _) (State.setPair_keepsRegs _ .hl _), rfl, rfl, rfl, rfl,
      State.keepsRest_of_eq rfl⟩⟩

/-- `LD (n16),SP` makes its two stores when they are not fatal (R420). -/
theorem stSP_of_not_fatal {s : State} {nn : Word} (h : s.storesFatal [(nn, lo8 s.sp), (nn + 1, hi8 s.sp)] = false) :
    stSP nn s = { State.storeList [(nn, lo8 s.sp), (nn + 1, hi8 s.sp)] s with sp := s.sp, cost := 20 } := by
  obtain ⟨hlow, hhigh⟩ := State.storesFatal_pair.1 h
  exact (State.memWrite_of_not_fatal hlow _).trans (State.memWrite_of_not_fatal hhigh _)

/-- Settles O6: neither store is fatal, so both are made, the low byte's first. -/
theorem storeStackPointer : Obligations.StoreStackPointer := by
  unfold Obligations.StoreStackPointer
  refine fun b2 b3 => ⟨rfl, fun s hfatal => ⟨_, rfl, ?_⟩⟩
  rw [← hi8_eq, ← lo8_eq] at hfatal ⊢
  exact State.frame_of_stores (stSP_of_not_fatal hfatal)

/-! ## The stack -/

/-- A push that is not fatal makes its two stores and moves SP (R422). -/
theorem push_of_not_fatal {p : StackPair} {s : State} (h : s.storesFatal (pushStores s.sp (s.stackPair p)) = false) :
    push p s = { State.storeList (pushStores s.sp (s.stackPair p)) s with sp := s.sp - 2, cost := 16 } :=
  State.push16_of_not_fatal h _

/-- Settles O7: the pushed word's two stores, and SP. -/
theorem pushWord : Obligations.PushWord := by
  unfold Obligations.PushWord
  intro op i p h
  obtain ⟨hdec, hexec⟩ := push_of_row h
  refine ⟨hdec, fun s hfatal => ⟨_, hexec s, ?_⟩⟩
  obtain ⟨hregs, hflags, hsp, hpc, hcost, hrest⟩ := State.frame_of_stores (push_of_not_fatal hfatal)
  exact ⟨hsp, hregs, hflags, hpc, hcost, hrest⟩

/-- A stack pair reads what was written to it, but for F's low nibble (R102). -/
theorem State.stackPair_setStackPair (s : State) {p : StackPair} {v : Word} (h : p = .af → lo8 v &&& 0xF0#8 = lo8 v) :
    (s.setStackPair p v).stackPair p = v := by
  cases p with
  | bc => exact s.bc_setBC v
  | de => exact s.de_setDE v
  | hl => exact s.hl_setHL v
  | af =>
    have hlow := h rfl
    simp only [State.setStackPair, State.stackPair, State.regF, State.setAF_regs, hlow]
    exact word16_hi8_lo8 v

/-- Settles O8: the word at SP goes into the pair; the three pairs besides AF are pairs of registers as in R101. -/
theorem popWord : Obligations.PopWord := by
  unfold Obligations.PopWord
  intro op i p h
  obtain ⟨hdec, hexec⟩ := pop_of_row h
  refine ⟨hdec, fun s => ⟨_, hexec s, State.setStackPair_sp _ p _, State.setStackPair_pc _ p _, rfl, ?_, ?_, fun hp =>
    ⟨State.stackPair_setStackPair _ fun e => absurd e hp, State.setStackPair_f _ hp _, ?_, ?_, ?_⟩⟩⟩
  · cases p <;> exact State.keepsRest_of_eq rfl
  · rintro rfl
    exact ⟨hi8_word16 _ _, congrArg (· &&& 0xF0#8) (lo8_word16 _ _), s.pop16.2.setAF_keepsRegs _⟩
  · rintro rfl; exact s.pop16.2.setPair_keepsRegs .bc _
  · rintro rfl; exact s.pop16.2.setPair_keepsRegs .de _
  · rintro rfl; exact s.pop16.2.setPair_keepsRegs .hl _

/-! ## A push and a pop -/

/-- A word pushed on plain storage stands there, low byte first. -/
theorem State.read_pushed {s : State} (hinv : s.Inv) (v : Word) (hhigh : s.mmu.holds (s.sp - 1) = true)
    (hlow : s.mmu.holds (s.sp - 2) = true) :
    (State.storeList (pushStores s.sp v) s).read (s.sp - 1) = hi8 v ∧
      (State.storeList (pushStores s.sp v) s).read (s.sp - 2) = lo8 v := by
  obtain ⟨-, ⟨hcart, -⟩, -⟩ := hinv
  have hlow' : (s.store (s.sp - 1) (hi8 v)).mmu.holds (s.sp - 2) = true := by
    rw [State.store_mmu, Mmu.holds_write_of_holds hhigh, hlow]
  have huntouched : (s.store (s.sp - 1) (hi8 v)).touches (s.sp - 2) (s.sp - 1) = false := by
    refine Mmu.touches_of_holds hlow' ?_
    rw [State.store_mmu, Mmu.locate_write_of_holds hhigh, Mmu.locate_write_of_holds hhigh]
    exact locate_pushed_ne hcart hhigh hlow
  rw [pushStores_eq]
  exact ⟨(State.store_read_frame _ _ _ _ huntouched).trans (State.store_read_same _ hhigh), State.store_read_same _ hlow'⟩

theorem pushStores_not_fatal {s : State} (v : Word) (hhigh : s.mmu.holds (s.sp - 1) = true)
    (hlow : s.mmu.holds (s.sp - 2) = true) : s.storesFatal (pushStores s.sp v) = false := by
  rw [pushStores_eq]
  exact State.storesFatal_pair.2 ⟨Mmu.not_fatal_of_holds hhigh _,
    Mmu.not_fatal_of_holds (by rw [State.store_mmu, Mmu.holds_write_of_holds hhigh, hlow]) _⟩

/-- What a pop finds after a push on plain storage: the word, and SP as it was before the push. -/
theorem pop16_push {s : State} (p : StackPair) (hinv : s.Inv) (hhigh : s.mmu.holds (s.sp - 1) = true)
    (hlow : s.mmu.holds (s.sp - 2) = true) : (push p s).pop16 = (s.stackPair p, (push p s).setSP s.sp) := by
  have hnext : s.sp - 2 + 1 = s.sp - 1 := by bv_omega
  have hback : s.sp - 2 + 2 = s.sp := by bv_omega
  obtain ⟨hreadHigh, hreadLow⟩ := State.read_pushed hinv (s.stackPair p) hhigh hlow
  rw [push_of_not_fatal (pushStores_not_fatal _ hhigh hlow)]
  refine Prod.ext ?_ (congrArg (State.setSP _) hback)
  rw [← hnext] at hreadHigh
  exact (congrArg₂ word16 hreadHigh hreadLow).trans (word16_hi8_lo8 _)

/-- F is pushed with its low nibble zero (R422). -/
theorem State.lo8_stackPair_af (s : State) : lo8 (s.stackPair .af) &&& 0xF0#8 = lo8 (s.stackPair .af) := by
  rw [State.stackPair, lo8_word16, State.regF, BitVec.and_assoc, BitVec.and_self]

/-- Settles O9: the two bytes are read back, and `POP AF` masks a byte that was pushed masked. -/
theorem pushPopRoundTrip : Obligations.PushPopRoundTrip := by
  unfold Obligations.PushPopRoundTrip
  intro opPush i p opPop j q s hpush hpop haf hinv hhigh hlow
  have hround : pop q (push p s) = (((push p s).setSP s.sp).setStackPair q (s.stackPair p)).tick 12 := by
    rw [pop, pop16_push p hinv hhigh hlow]
  refine ⟨_, _, (push_of_row hpush).2 s, (pop_of_row hpop).2 _, ?_, ?_⟩ <;> rw [hround]
  · refine State.stackPair_setStackPair _ fun hq => ?_
    rw [haf hq]
    exact s.lo8_stackPair_af
  · exact State.setStackPair_sp _ q _

end Sys2Proof.Machine
end

section
/-! SUPPORT. 8-bit arithmetic and logic (41_alu8.md R440-R458): the rows, the shared operations in plain arithmetic, and what each
instruction writes and leaves. -/

namespace Sys2Proof.Machine

/-! ## What the instructions write -/

theorem State.hasFlags_of_f {t : State} {z n h c : Bool} (hf : t.regs.f = packF z n h c) : t.hasFlags z n h c := by
  unfold State.hasFlags State.flagZ State.flagN State.flagH State.flagC
  rw [hf]
  exact ⟨packF_z z n h c, packF_n z n h c, packF_h z n h c, packF_c z n h c, packF_low z n h c⟩

/-- Of the 8-bit registers A and F written change A alone; F is no `Reg8` (R102). -/
theorem State.putAF_keepsRegs (s : State) (r : Byte × Byte) : s.keepsRegs (s.putAF r) [.a] := by
  intro y hy
  cases y with
  | a => exact absurd (List.mem_singleton_self _) hy
  | _ => rfl

theorem State.putF_keepsRegs (s : State) (f : Byte) (w : List Reg8) : s.keepsRegs (s.putF f) w := by
  intro y _
  cases y <;> rfl

/-- What writes A and F at a cost leaves. -/
theorem State.putAF_frame {s t : State} {r : Byte × Byte} {k : Nat} (h : t = (s.putAF r).tick k) :
    s.keepsRegs t [.a] ∧ t.sp = s.sp ∧ t.pc = s.pc ∧ t.cost = k ∧ s.keepsRest t := by
  subst h
  exact ⟨s.putAF_keepsRegs r, rfl, rfl, rfl, State.keepsRest_of_eq rfl⟩

/-- What writes F alone at a cost leaves; w may name registers it could have written. -/
theorem State.putF_frame {s t : State} {f : Byte} {k : Nat} (w : List Reg8) (h : t = (s.putF f).tick k) :
    s.keepsRegs t w ∧ t.sp = s.sp ∧ t.pc = s.pc ∧ t.cost = k ∧ s.keepsRest t := by
  subst h
  exact ⟨s.putF_keepsRegs f w, rfl, rfl, rfl, State.keepsRest_of_eq rfl⟩

/-- F written and then a place, when the store to (HL) is not the fatal one: what a read-modify-write instruction does and
leaves (assumption 7). -/
theorem State.writePlace_frame {s t : State} {p : Place8} {f v : Byte} {k : Nat}
    (hfatal : s.storesFatal (s.placeStores p v) = false) (h : t = (s.putF f).writePlace p v (·.tick k)) :
    s.placeGets t p v ∧ t.regs.f = f ∧ s.keepsRegs t p.regs ∧ t.sp = s.sp ∧ t.pc = s.pc ∧ t.cost = k ∧
      s.keepsRestBut (s.placeStores p v) t := by
  subst h
  cases p with
  | reg r =>
    refine ⟨?_, Regs.set8_f _ r v, ?_, rfl, rfl, rfl, State.keepsRestBut_of_eq rfl⟩
    · exact ((s.putF f).reg8_setReg8 r r v).trans (if_pos rfl)
    · exact State.keepsRegs_trans (s.putF_keepsRegs f []) ((s.putF f).setReg8_keepsRegs r v)
  | memHL =>
    have hstore : (s.putF f).writePlace .memHL v (·.tick k) = ((s.putF f).store s.hl v).tick k :=
      State.memWrite_of_not_fatal (s := s.putF f) (State.storesFatal_singleton.1 hfatal) (·.tick k)
    rw [hstore]
    exact ⟨fun hholds => State.store_read_same (s := s) v hholds, rfl, s.putF_keepsRegs f _, rfl, rfl, rfl,
      State.keepsRestBut_of_eq rfl⟩

/-! ## The rows -/

/-- A row of ALU operation y (R442): the opcode decodes to the instruction, which means f, and has y in bits 5-3, in the forms
10 yyy zzz and 11 yyy 110 alike. -/
structure AluRow (y : BitVec 3) (f : Src8 → State → State) (n op : Byte) (i : Instr) (src : Src8) : Prop where
  decodes : ∀ b3, decodeBytes op n b3 = i
  execs : ∀ s, exec i s = .next (f src s)
  field : op.extractLsb' 3 3 = y

section Rows

variable {n op : Byte} {i : Instr} {src : Src8}

theorem addA_of_row (h : (op, i, src) ∈ rowsAdd n) : AluRow 0 addA n op i src := by
  fin_cases h <;> exact ⟨fun _ => rfl, fun _ => rfl, rfl⟩

theorem adcA_of_row (h : (op, i, src) ∈ rowsAdc n) : AluRow 1 adcA n op i src := by
  fin_cases h <;> exact ⟨fun _ => rfl, fun _ => rfl, rfl⟩

theorem subA_of_row (h : (op, i, src) ∈ rowsSub n) : AluRow 2 subA n op i src := by
  fin_cases h <;> exact ⟨fun _ => rfl, fun _ => rfl, rfl⟩

theorem sbcA_of_row (h : (op, i, src) ∈ rowsSbc n) : AluRow 3 sbcA n op i src := by
  fin_cases h <;> exact ⟨fun _ => rfl, fun _ => rfl, rfl⟩

theorem andA_of_row (h : (op, i, src) ∈ rowsAnd n) : AluRow 4 andA n op i src := by
  fin_cases h <;> exact ⟨fun _ => rfl, fun _ => rfl, rfl⟩

theorem xorA_of_row (h : (op, i, src) ∈ rowsXor n) : AluRow 5 xorA n op i src := by
  fin_cases h <;> exact ⟨fun _ => rfl, fun _ => rfl, rfl⟩

theorem orA_of_row (h : (op, i, src) ∈ rowsOr n) : AluRow 6 orA n op i src := by
  fin_cases h <;> exact ⟨fun _ => rfl, fun _ => rfl, rfl⟩

theorem cpA_of_row (h : (op, i, src) ∈ rowsCp n) : AluRow 7 cpA n op i src := by
  fin_cases h <;> exact ⟨fun _ => rfl, fun _ => rfl, rfl⟩

/-- An opcode is of one operation. -/
theorem AluRow.field_unique {y y' : BitVec 3} {f f' : Src8 → State → State} (h : AluRow y f n op i src)
    (h' : AluRow y' f' n op i src) : y = y' :=
  h.field.symm.trans h'.field

end Rows

/-! ## Sums -/

/-- `Add8` into A, in plain arithmetic (R440). -/
theorem putAF_add8 (s : State) (v : Byte) (cin : Bool) (k : Nat) {t : State}
    (h : t = (s.putAF (add8 s.regs.a v cin)).tick k) :
    t.regs.a.toNat = (s.regs.a.toNat + v.toNat + cin.toNat) % 256 ∧
      t.hasFlags (t.regs.a == 0) false (decide (s.regs.a.toNat % 16 + v.toNat % 16 + cin.toNat > 15))
        (decide (s.regs.a.toNat + v.toNat + cin.toNat > 255)) := by
  subst h
  exact ⟨BitVec.toNat_ofNat _ _, State.hasFlags_of_f rfl⟩

/-- Settles O10: ADD and ADC are `Add8` into A, with 0 or C as the carry-in. -/
theorem addToAccumulator : Obligations.AddToAccumulator := by
  unfold Obligations.AddToAccumulator
  rintro n op i src (hadd | hadc)
  · have row := addA_of_row hadd
    have hnot : (op, i, src) ∉ rowsAdc n := fun h => absurd (row.field_unique (adcA_of_row h)) (by decide)
    refine ⟨row.decodes, fun s => ⟨addA src s, row.execs s, ?_, State.putAF_frame rfl⟩⟩
    rw [if_neg hnot]
    exact putAF_add8 s _ false _ rfl
  · have row := adcA_of_row hadc
    refine ⟨row.decodes, fun s => ⟨adcA src s, row.execs s, ?_, State.putAF_frame rfl⟩⟩
    rw [if_pos hadc]
    exact putAF_add8 s _ s.flagC _ rfl

/-! ## Differences -/

/-- The result of `Sub8` in plain arithmetic (R441). -/
theorem sub8_toNat (a b : Byte) (cin : Bool) : (sub8 a b cin).1.toNat = (a.toNat + 512 - b.toNat - cin.toNat) % 256 := by
  have ha := a.isLt
  have hb := b.isLt
  have hc := cin.toNat_le
  rw [sub8, BitVec.toNat_ofInt]
  omega

/-- Z, N, H, C of `Sub8` in plain arithmetic (R441). -/
theorem hasFlags_of_sub8 {t : State} {a b : Byte} {cin : Bool} (h : t.regs.f = (sub8 a b cin).2) :
    t.hasFlags (decide ((a.toNat + 512 - b.toNat - cin.toNat) % 256 = 0)) true
      (decide (a.toNat % 16 < b.toNat % 16 + cin.toNat)) (decide (a.toNat < b.toNat + cin.toNat)) := by
  have hz : decide ((a.toNat + 512 - b.toNat - cin.toNat) % 256 = 0) = ((sub8 a b cin).1 == 0) := by
    rw [← sub8_toNat]
    exact decide_eq_decide.2 (BitVec.toNat_inj (y := 0))
  rw [hz]
  exact State.hasFlags_of_f h

/-- Settles O11: SUB, SBC and CP are `Sub8` with 0, C and 0 as the borrow-in; CP writes its flags alone. -/
theorem subtractAndCompare : Obligations.SubtractAndCompare := by
  unfold Obligations.SubtractAndCompare
  rintro n op i src (hsub | hsbc | hcp)
  · have row := subA_of_row hsub
    have hnotSbc : (op, i, src) ∉ rowsSbc n := fun h => absurd (row.field_unique (sbcA_of_row h)) (by decide)
    have hnotCp : (op, i, src) ∉ rowsCp n := fun h => absurd (row.field_unique (cpA_of_row h)) (by decide)
    refine ⟨row.decodes, fun s => ⟨subA src s, row.execs s, ?_, State.putAF_frame rfl⟩⟩
    simp only [if_neg hnotSbc, if_neg hnotCp]
    exact ⟨sub8_toNat _ _ false, hasFlags_of_sub8 (cin := false) rfl⟩
  · have row := sbcA_of_row hsbc
    have hnotCp : (op, i, src) ∉ rowsCp n := fun h => absurd (row.field_unique (cpA_of_row h)) (by decide)
    refine ⟨row.decodes, fun s => ⟨sbcA src s, row.execs s, ?_, State.putAF_frame rfl⟩⟩
    simp only [if_pos hsbc, if_neg hnotCp]
    exact ⟨sub8_toNat _ _ s.flagC, hasFlags_of_sub8 (cin := s.flagC) rfl⟩
  · have row := cpA_of_row hcp
    have hnotSbc : (op, i, src) ∉ rowsSbc n := fun h => absurd (row.field_unique (sbcA_of_row h)) (by decide)
    refine ⟨row.decodes, fun s => ⟨cpA src s, row.execs s, ?_, State.putF_frame _ rfl⟩⟩
    simp only [if_neg hnotSbc, if_pos hcp]
    exact ⟨rfl, hasFlags_of_sub8 (cin := false) rfl⟩

/-! ## Bitwise operations -/

/-- Settles O12: each bit of the result is the operation on the two bits. -/
theorem logicOnAccumulator : Obligations.LogicOnAccumulator := by
  unfold Obligations.LogicOnAccumulator
  rintro n op i src f h (⟨hrow, rfl, rfl⟩ | ⟨hrow, rfl, rfl⟩ | ⟨hrow, rfl, rfl⟩)
  · have row := andA_of_row hrow
    exact ⟨row.decodes, fun s => ⟨andA src s, row.execs s, fun _ _ => BitVec.getLsbD_and, State.hasFlags_of_f rfl,
      State.putAF_frame rfl⟩⟩
  · have row := xorA_of_row hrow
    exact ⟨row.decodes, fun s => ⟨xorA src s, row.execs s, fun _ _ => BitVec.getLsbD_xor, State.hasFlags_of_f rfl,
      State.putAF_frame rfl⟩⟩
  · have row := orA_of_row hrow
    exact ⟨row.decodes, fun s => ⟨orA src s, row.execs s, fun _ _ => BitVec.getLsbD_or, State.hasFlags_of_f rfl,
      State.putAF_frame rfl⟩⟩

/-! ## INC and DEC -/

/-- F after a byte v is stepped by d, the carry before being c: Z N H - (R451, R453). -/
def stepFlags (v d : Byte) (c : Bool) : Byte :=
  packF (v + d == 0) (decide (d = 0xFF)) (decide (v.toNat % 16 = if d = 1 then 15 else 0)) c

theorem lowNibble_beq (v : Byte) (k : BitVec 4) : (v.setWidth 4 == k) = decide (v.toNat % 16 = k.toNat) :=
  decide_eq_decide.2 (BitVec.toNat_inj (x := v.setWidth 4)).symm

theorem inc8_eq (v : Byte) (c : Bool) : inc8 v c = (v + 1, stepFlags v 1 c) := by
  rw [inc8, lowNibble_beq]
  rfl

theorem dec8_eq (v : Byte) (c : Bool) : dec8 v c = (v + 0xFF, stepFlags v 0xFF c) := by
  have hsub : v - 1 = v + 0xFF := by bv_omega
  rw [dec8, lowNibble_beq, hsub]
  rfl

/-- INC and DEC of a place are one operation: the place stepped by 1 or by 0xFF, F written before it. -/
theorem stepPlace_of_row {op : Byte} {i : Instr} {p : Place8} {d : Byte}
    (h : (op, i, p) ∈ rowsInc8 ∧ d = 1 ∨ (op, i, p) ∈ rowsDec8 ∧ d = 0xFF) :
    (∀ b2 b3, decodeBytes op b2 b3 = i) ∧ ∀ s, exec i s =
      .next ((s.putF (stepFlags (s.readPlace p) d s.flagC)).writePlace p (s.readPlace p + d) (·.tick (p.cost 4 12))) := by
  rcases h with ⟨hrow, rfl⟩ | ⟨hrow, rfl⟩
  · obtain ⟨hdec, hexec⟩ : (∀ b2 b3, decodeBytes op b2 b3 = i) ∧ ∀ s, exec i s = .next (incPlace p s) := by
      fin_cases hrow <;> exact ⟨fun _ _ => rfl, fun _ => rfl⟩
    exact ⟨hdec, fun s => by rw [hexec, incPlace, inc8_eq]⟩
  · obtain ⟨hdec, hexec⟩ : (∀ b2 b3, decodeBytes op b2 b3 = i) ∧ ∀ s, exec i s = .next (decPlace p s) := by
      fin_cases hrow <;> exact ⟨fun _ _ => rfl, fun _ => rfl⟩
    exact ⟨hdec, fun s => by rw [hexec, decPlace, dec8_eq]⟩

/-- Settles O13: the flags are written with the carry kept, then the place. -/
theorem incrementByte : Obligations.IncrementByte := by
  unfold Obligations.IncrementByte
  intro op i p d h
  obtain ⟨hdec, hexec⟩ := stepPlace_of_row h
  refine ⟨hdec, fun s hfatal => ⟨_, hexec s, ?_⟩⟩
  obtain ⟨hplace, hflags, hframe⟩ := State.writePlace_frame hfatal rfl
  exact ⟨hplace, State.hasFlags_of_f hflags, hframe⟩

/-! ## DAA -/

/-- DAA makes the 0x60 correction (R455). -/
def daaHigh (a : Byte) (n c : Bool) : Bool := c || (!n && decide (a.toNat > 0x99))

/-- DAA makes the 0x06 correction (R455). -/
def daaLow (a : Byte) (n h : Bool) : Bool := h || (!n && decide (a.toNat % 16 > 9))

/-- The correction DAA adds or subtracts (R455). -/
def daaFix (a : Byte) (n h c : Bool) : Nat := (if daaHigh a n c then 0x60 else 0) + (if daaLow a n h then 0x06 else 0)

/-- After a subtraction the flags alone ask for the corrections. -/
theorem daaHigh_sub (a : Byte) (c : Bool) : daaHigh a true c = c := Bool.or_false c
theorem daaLow_sub (a : Byte) (h : Bool) : daaLow a true h = h := Bool.or_false h

/-- After an addition a digit above 9 asks for one too. -/
theorem daaHigh_add_iff {a : Byte} {c : Bool} : daaHigh a false c = true ↔ c = true ∨ 0x99 < a.toNat := by
  simp [daaHigh]
theorem daaLow_add_iff {a : Byte} {h : Bool} : daaLow a false h = true ↔ h = true ∨ 9 < a.toNat % 16 := by
  simp [daaLow]

theorem daaAdjust_carry (a : Byte) (n h c : Bool) : (daaAdjust a n h c).2 = daaHigh a n c := by
  cases n
  · rfl
  · exact (daaHigh_sub a c).symm

theorem toNat_bif_add (b : Bool) (a : Byte) {k : Byte} {m : Nat} (hk : k.toNat = m) :
    (bif b then a + k else a).toNat = (a.toNat + if b then m else 0) % 256 := by
  subst hk
  cases b
  · exact (Nat.mod_eq_of_lt a.isLt).symm
  · exact BitVec.toNat_add a k

theorem toNat_bif_sub (b : Bool) (a : Byte) {k : Byte} {m : Nat} (hk : k.toNat = m) :
    (bif b then a - k else a).toNat = (a.toNat + 256 - if b then m else 0) % 256 := by
  have ha := a.isLt
  have hm := hk ▸ k.isLt
  cases b
  · simp only [cond_false, Bool.false_eq_true, if_false]; omega
  · simp only [cond_true, if_true, BitVec.toNat_sub]; omega

/-- After an addition A is corrected twice, the second time by the low digit of what the first left, which is A's own. -/
theorem daaAdjust_add (a : Byte) (h c : Bool) :
    (daaAdjust a false h c).1 = bif daaLow a false h then (bif daaHigh a false c then a + 0x60 else a) + 0x06
      else bif daaHigh a false c then a + 0x60 else a := by
  have hdigit : (bif daaHigh a false c then a + 0x60 else a).toNat % 16 = a.toNat % 16 := by
    rw [toNat_bif_add _ a (m := 0x60) rfl]
    split <;> omega
  unfold daaLow
  rw [← hdigit]
  rfl

theorem daaAdjust_toNat (a : Byte) (n h c : Bool) :
    (daaAdjust a n h c).1.toNat = (if n then a.toNat + 512 - daaFix a n h c else a.toNat + daaFix a n h c) % 256 := by
  cases n with
  | true =>
    rw [daaFix, daaHigh_sub, daaLow_sub, if_pos rfl]
    refine (toNat_bif_sub h _ (m := 0x06) rfl).trans ?_
    rw [toNat_bif_sub c a (m := 0x60) rfl]
    split <;> split <;> omega
  | false =>
    rw [daaAdjust_add, toNat_bif_add _ _ (m := 0x06) rfl, toNat_bif_add _ a (m := 0x60) rfl, Nat.mod_add_mod, Nat.add_assoc]
    rfl

/-- Settles O14: `daaAdjust` in plain arithmetic, and its flags. -/
theorem decimalAdjust : Obligations.DecimalAdjust := by
  unfold Obligations.DecimalAdjust
  refine ⟨fun _ _ => rfl, fun s => ⟨daaA s, rfl, ⟨daaAdjust_toNat _ _ _ _, ?_⟩, State.putAF_frame rfl⟩⟩
  refine State.hasFlags_of_f ?_
  rw [← daaHigh, ← daaAdjust_carry]
  rfl

/-! ## Packed decimals -/

/-- The byte that holds a number below 100 in packed decimal: the tens in the high digit, the units in the low. -/
def packed (x : Nat) : Nat := x / 10 * 16 + x % 10

/-- DAA after a sum of packed decimals: each digit's sum has gone past 9 or carried. -/
theorem daaAdjust_packed_add {x y k : Nat} {a : Byte} {n h c : Bool} (hx : x < 100) (hy : y < 100) (hk : k ≤ 1)
    (ha : a.toNat = (packed x + packed y + k) % 256) (hn : n = false)
    (hh : h = decide (packed x % 16 + packed y % 16 + k > 15))
    (hc : c = decide (packed x + packed y + k > 255)) :
    (daaAdjust a n h c).1.toNat = (x + y + k) % 100 / 10 * 16 + (x + y + k) % 10 ∧
      (daaAdjust a n h c).2 = decide (100 ≤ x + y + k) := by
  subst hn
  unfold packed at ha hh hc
  have hhigh : daaHigh a false c = decide (100 ≤ x + y + k) := by
    have hdigits : x / 10 + y / 10 ≤ 8 ∨ x / 10 + y / 10 = 9 ∨ 10 ≤ x / 10 + y / 10 := by omega
    have hsum : 0x99 < x / 10 * 16 + x % 10 + (y / 10 * 16 + y % 10) + k ↔ 100 ≤ x + y + k := by omega
    rw [Bool.eq_iff_iff, daaHigh_add_iff, hc, ha, decide_eq_true_eq, decide_eq_true_eq, ← hsum]
    omega
  have hlow : daaLow a false h = decide (10 ≤ x % 10 + y % 10 + k) := by
    rw [Bool.eq_iff_iff, daaLow_add_iff, hh, ha, decide_eq_true_eq, decide_eq_true_eq]
    omega
  rw [daaAdjust_carry, daaAdjust_toNat, daaFix, hhigh, hlow, ha]
  refine ⟨?_, rfl⟩
  simp only [decide_eq_true_eq, Bool.false_eq_true, if_false]
  split <;> split <;> omega

/-- DAA after a difference of packed decimals: a digit that borrowed took 16 where a decimal digit takes 10. -/
theorem daaAdjust_packed_sub {x y k : Nat} {a : Byte} {n h c : Bool} (hx : x < 100) (hy : y < 100) (hk : k ≤ 1)
    (ha : a.toNat = (packed x + 512 - packed y - k) % 256) (hn : n = true)
    (hh : h = decide (packed x % 16 < packed y % 16 + k))
    (hc : c = decide (packed x < packed y + k)) :
    (daaAdjust a n h c).1.toNat = (x + 200 - y - k) % 100 / 10 * 16 + (x + 200 - y - k) % 10 ∧
      (daaAdjust a n h c).2 = decide (x < y + k) := by
  subst hn
  unfold packed at ha hh hc
  have hhigh : daaHigh a true c = decide (x < y + k) := by
    rw [daaHigh_sub, hc, decide_eq_decide]
    omega
  have hlow : daaLow a true h = decide (x % 10 < y % 10 + k) := by
    rw [daaLow_sub, hh, decide_eq_decide]
    omega
  rw [daaAdjust_carry, daaAdjust_toNat, daaFix, hhigh, hlow, ha]
  refine ⟨?_, rfl⟩
  simp only [decide_eq_true_eq, if_true]
  split <;> split <;> omega

/-- A and C after DAA. -/
theorem daaA_result (s : State) : (daaA s).regs.a = (daaAdjust s.regs.a s.flagN s.flagH s.flagC).1 ∧
    (daaA s).flagC = (daaAdjust s.regs.a s.flagN s.flagH s.flagC).2 :=
  ⟨rfl, packF_c _ _ _ _⟩

/-- Settles O15: DAA after ADC or SBC, whose H and C tell it of the two digits' carries. -/
theorem decimalArithmetic : Obligations.DecimalArithmetic := by
  unfold Obligations.DecimalArithmetic
  intro s x y hx hy ha hb
  have hb' : (s.src8 (.reg .b)).toNat = packed y := hb
  rw [← packed] at ha
  refine ⟨⟨adcA (.reg .b) s, daaA (adcA (.reg .b) s), rfl, rfl, ?_⟩,
    sbcA (.reg .b) s, daaA (sbcA (.reg .b) s), rfl, rfl, ?_⟩
  · obtain ⟨hsum, -, hn, hh, hc, -⟩ := putAF_add8 s (s.src8 (.reg .b)) s.flagC _ (t := adcA (.reg .b) s) rfl
    obtain ⟨hA, hC⟩ := daaA_result (adcA (.reg .b) s)
    rw [hA, hC]
    rw [ha, hb'] at hsum hh hc
    exact daaAdjust_packed_add hx hy s.flagC.toNat_le hsum hn hh hc
  · obtain ⟨-, hn, hh, hc, -⟩ := hasFlags_of_sub8 (t := sbcA (.reg .b) s) (a := s.regs.a) (b := s.src8 (.reg .b))
      (cin := s.flagC) rfl
    have hdiff : (sbcA (.reg .b) s).regs.a.toNat = _ := sub8_toNat s.regs.a (s.src8 (.reg .b)) s.flagC
    obtain ⟨hA, hC⟩ := daaA_result (sbcA (.reg .b) s)
    rw [hA, hC]
    rw [ha, hb'] at hdiff hh hc
    exact daaAdjust_packed_sub hx hy s.flagC.toNat_le hdiff hn hh hc

/-! ## CPL, SCF, CCF -/

theorem complement_toNat (a : Byte) : (a ^^^ 0xFF#8).toNat = 255 - a.toNat := by
  rw [show 0xFF#8 = BitVec.allOnes 8 from rfl, BitVec.xor_allOnes, BitVec.toNat_not]

/-- Settles O16: A and F, or F alone, written with Z kept. -/
theorem complementAndCarry : Obligations.ComplementAndCarry := by
  unfold Obligations.ComplementAndCarry
  refine ⟨fun _ _ => ⟨rfl, rfl, rfl⟩, fun s => ⟨?_, ?_, ?_⟩⟩
  · exact ⟨cplA s, rfl, complement_toNat _, State.hasFlags_of_f rfl, State.putAF_frame rfl⟩
  · exact ⟨setCarry s, rfl, State.hasFlags_of_f rfl, State.putF_frame _ rfl⟩
  · exact ⟨flipCarry s, rfl, State.hasFlags_of_f rfl, State.putF_frame _ rfl⟩

end Sys2Proof.Machine
end

section
/-! SUPPORT. 16-bit arithmetic (42_alu16.md R480-R485): the rows, the sums in plain arithmetic, and F with a pair written. -/

namespace Sys2Proof.Machine

/-! ## What the instructions write -/

/-- F written and then a pair, at a cost: what every instruction of 16-bit arithmetic does and leaves. -/
theorem State.putF_setPair_frame {s t : State} {f : Byte} {p : Pair} {v : Word} {k : Nat}
    (h : t = ((s.putF f).setPair p v).tick k) :
    t.pair p = v ∧ t.regs.f = f ∧ s.keepsRegs t p.halves ∧ (p ≠ .sp → t.sp = s.sp) ∧ t.pc = s.pc ∧ t.cost = k ∧
      s.keepsRest t := by
  subst h
  have hrest : s.keepsRest (((s.putF f).setPair p v).tick k) := by cases p <;> exact State.keepsRest_of_eq rfl
  exact ⟨State.pair_setPair _ p v, State.setPair_f _ p v,
    State.keepsRegs_trans (s.putF_keepsRegs f []) (State.setPair_keepsRegs _ p v), fun hp => State.setPair_sp _ hp v,
    State.setPair_pc _ p v, rfl, hrest⟩

/-! ## The rows -/

theorem addHL_of_row {op : Byte} {i : Instr} {p : Pair} (h : (op, i, p) ∈ rowsAddHL) :
    (∀ b2 b3, decodeBytes op b2 b3 = i) ∧ ∀ s, exec i s = .next (addHL p s) := by
  fin_cases h <;> exact ⟨fun _ _ => rfl, fun _ => rfl⟩

theorem incPair_of_row {op : Byte} {i : Instr} {p : Pair} (h : (op, i, p) ∈ rowsIncPair) :
    (∀ b2 b3, decodeBytes op b2 b3 = i) ∧ ∀ s, exec i s = .next (incPair p s) := by
  fin_cases h <;> exact ⟨fun _ _ => rfl, fun _ => rfl⟩

theorem decPair_of_row {op : Byte} {i : Instr} {p : Pair} (h : (op, i, p) ∈ rowsDecPair) :
    (∀ b2 b3, decodeBytes op b2 b3 = i) ∧ ∀ s, exec i s = .next (decPair p s) := by
  fin_cases h <;> exact ⟨fun _ _ => rfl, fun _ => rfl⟩

theorem decPair_eq (p : Pair) (s : State) : decPair p s = (s.setPair p (s.pair p + 0xFFFF)).tick 8 := by
  have hsub : s.pair p - 1 = s.pair p + 0xFFFF := by bv_omega
  rw [decPair, hsub]

/-- INC and DEC of a pair are one operation: the pair stepped by 1 or by 0xFFFF. -/
theorem stepPair_of_row {op : Byte} {i : Instr} {p : Pair} {d : Word}
    (h : (op, i, p) ∈ rowsIncPair ∧ d = 1 ∨ (op, i, p) ∈ rowsDecPair ∧ d = 0xFFFF) :
    (∀ b2 b3, decodeBytes op b2 b3 = i) ∧ ∀ s, exec i s = .next ((s.setPair p (s.pair p + d)).tick 8) := by
  rcases h with ⟨hrow, rfl⟩ | ⟨hrow, rfl⟩
  · exact incPair_of_row hrow
  · obtain ⟨hdec, hexec⟩ := decPair_of_row hrow
    exact ⟨hdec, fun s => by rw [hexec, decPair_eq]⟩

/-! ## ADD HL,rr, INC rr and DEC rr -/

/-- Settles O17: ADD HL writes F and then HL; INC and DEC write the pair, which is to write F as it was and then the pair. -/
theorem pairArithmetic : Obligations.PairArithmetic := by
  unfold Obligations.PairArithmetic
  refine ⟨fun op i p h => ?_, fun op i p d h => ?_⟩
  · obtain ⟨hdec, hexec⟩ := addHL_of_row h
    refine ⟨hdec, fun s => ⟨_, hexec s, ?_⟩⟩
    obtain ⟨hvalue, hf, hregs, hsp, hframe⟩ := State.putF_setPair_frame (s := s) (p := .hl) (t := addHL p s) rfl
    exact ⟨(congrArg BitVec.toNat hvalue).trans (BitVec.toNat_ofNat _ _), State.hasFlags_of_f hf, hregs,
      hsp (by decide), hframe⟩
  · obtain ⟨hdec, hexec⟩ := stepPair_of_row h
    refine ⟨hdec, fun s => ⟨_, hexec s, ?_⟩⟩
    obtain ⟨hvalue, hf, hregs, hframe⟩ := State.putF_setPair_frame (s := s) (f := s.regs.f) (p := p)
      (t := (s.setPair p (s.pair p + d)).tick 8) rfl
    exact ⟨hvalue, hregs, hf, hframe⟩

/-! ## ADD SP,e8 and LD HL,SP+e8 -/

/-- The result of `SPe8(e)` in plain arithmetic (R483). -/
theorem spPlusE8_toNat (sp : Word) (e : Byte) : ((spPlusE8 sp e).1.toNat : Int) = ((sp.toNat : Int) + e.toInt) % 65536 := by
  have hext : ((sext16 e).toNat : Int) = e.toInt % 65536 := by
    rw [sext16, BitVec.signExtend, BitVec.toNat_ofInt]
    exact Int.toNat_of_nonneg (Int.emod_nonneg _ (by decide))
  rw [spPlusE8, BitVec.toNat_add]
  push_cast
  rw [hext]
  exact Int.add_emod_emod _ _ _

/-- `SPe8(e)` into a pair at a cost: the sum, its flags, and what is left (R483). -/
theorem spE8To_frame {p : Pair} {k : Nat} {e : Byte} {s t : State} (h : t = spE8To p k e s) :
    ((t.pair p).toNat : Int) = ((s.sp.toNat : Int) + e.toInt) % 65536 ∧
      t.hasFlags false false (decide (s.sp.toNat % 16 + e.toNat % 16 > 15)) (decide (s.sp.toNat % 256 + e.toNat > 255)) ∧
      s.keepsRegs t p.halves ∧ (p ≠ .sp → t.sp = s.sp) ∧ t.pc = s.pc ∧ t.cost = k ∧ s.keepsRest t := by
  obtain ⟨hvalue, hf, hframe⟩ := State.putF_setPair_frame h
  rw [hvalue]
  exact ⟨spPlusE8_toNat _ _, State.hasFlags_of_f hf, hframe⟩

/-- Settles O18: both are `SPe8(e)`, into SP or into HL. -/
theorem stackPointerOffset : Obligations.StackPointerOffset := by
  unfold Obligations.StackPointerOffset
  refine fun e => ⟨fun _ => ⟨rfl, rfl⟩, fun s => ⟨⟨_, rfl, ?_⟩, _, rfl, ?_⟩⟩
  · obtain ⟨hsum, hflags, hregs, -, hframe⟩ := spE8To_frame (p := .sp) (k := 16) (e := e) (s := s) rfl
    exact ⟨hsum, hflags, hregs, hframe⟩
  · obtain ⟨hsum, hflags, hregs, hsp, hframe⟩ := spE8To_frame (p := .hl) (k := 12) (e := e) (s := s) rfl
    exact ⟨hsum, hflags, hregs, hsp (by decide), hframe⟩

end Sys2Proof.Machine
end

section
/-! SUPPORT. Rotates, shifts and bit operations (43_rotate_shift_bit.md R500-R515): the rows, the rotates and shifts in plain
arithmetic, one bit written, and what each instruction writes and leaves. -/

namespace Sys2Proof.Machine

/-! ## Rotates and shifts in plain arithmetic -/

theorem bit7_eq_decide (v : Byte) : v.getLsbD 7 = decide (128 ≤ v.toNat) := BitVec.msb_eq_decide v

theorem bit0_eq_decide (v : Byte) : v.getLsbD 0 = decide (v.toNat % 2 = 1) := Nat.testBit_zero _

theorem bit7_toNat (v : Byte) : (v.getLsbD 7).toNat = v.toNat / 128 := by
  have hv := v.isLt
  have hbit : (v.getLsbD 7).toNat = v.toNat / 128 % 2 := Nat.toNat_testBit _ _
  omega

theorem bit0_toNat (v : Byte) : (v.getLsbD 0).toNat = v.toNat % 2 := by
  have hbit : (v.getLsbD 0).toNat = v.toNat / 1 % 2 := Nat.toNat_testBit _ _
  omega

/-- Bytes with no bit in common are joined as they are added. -/
theorem toNat_or_of_and_eq_zero {x y : Byte} (h : x &&& y = 0#8) : (x ||| y).toNat = x.toNat + y.toNat := by
  rw [← BitVec.add_eq_or_of_and_eq_zero x y h, BitVec.toNat_add_of_and_eq_zero h]

/-- A byte shifted left, b coming in at bit 0. -/
theorem shiftLeft_bit_toNat (v : Byte) (b : Bool) :
    (v <<< 1 ||| (BitVec.ofBool b).setWidth 8).toNat = (2 * v.toNat + b.toNat) % 256 := by
  have hdisjoint : v <<< 1 &&& (BitVec.ofBool b).setWidth 8 = 0#8 := by
    ext i hi
    by_cases h0 : i = 0 <;> simp [h0]
  have hb : ((BitVec.ofBool b).setWidth 8).toNat = b.toNat := by cases b <;> rfl
  have hle := b.toNat_le
  rw [toNat_or_of_and_eq_zero hdisjoint, hb, BitVec.toNat_shiftLeft, Nat.shiftLeft_eq]
  omega

/-- A byte shifted right, b coming in at bit 7. -/
theorem shiftRight_bit_toNat (v : Byte) (b : Bool) :
    (v >>> 1 ||| (BitVec.ofBool b).setWidth 8 <<< 7).toNat = v.toNat / 2 + 128 * b.toNat := by
  have hdisjoint : v >>> 1 &&& (BitVec.ofBool b).setWidth 8 <<< 7 = 0#8 := by
    ext i hi
    by_cases h7 : i < 7
    · simp [h7]
    · have hout : 8 ≤ 1 + i := by omega
      simp [hout]
  have hb : ((BitVec.ofBool b).setWidth 8 <<< 7).toNat = 128 * b.toNat := by cases b <;> rfl
  rw [toNat_or_of_and_eq_zero hdisjoint, hb, BitVec.toNat_ushiftRight, Nat.shiftRight_eq_div_pow]

/-- The nibbles exchanged. -/
theorem swapNibbles_toNat (v : Byte) : (v <<< 4 ||| v >>> 4).toNat = 16 * (v.toNat % 16) + v.toNat / 16 := by
  have hdisjoint : v <<< 4 &&& v >>> 4 = 0#8 := by
    ext i hi
    by_cases h4 : i < 4
    · simp [h4]
    · have hout : 8 ≤ 4 + i := by omega
      simp [hout]
  rw [toNat_or_of_and_eq_zero hdisjoint, BitVec.toNat_shiftLeft, BitVec.toNat_ushiftRight, Nat.shiftLeft_eq,
    Nat.shiftRight_eq_div_pow]
  omega

/-- The bit 7 that SRA keeps, as the one that comes in. -/
theorem and_0x80_eq (v : Byte) : v &&& 0x80#8 = (BitVec.ofBool (v.getLsbD 7)).setWidth 8 <<< 7 := by
  rw [show 0x80#8 = BitVec.twoPow 8 7 from rfl, BitVec.and_twoPow]
  cases v.getLsbD 7 <;> rfl

/-- A byte's result and carry as numbers. -/
def shiftNats (r : Byte × Bool) : Nat × Bool := (r.1.toNat, r.2)

theorem rlc8_nats (v : Byte) : shiftNats (rlc8 v) = ((2 * v.toNat + v.toNat / 128) % 256, decide (128 ≤ v.toNat)) := by
  rw [shiftNats, rlc8, shiftLeft_bit_toNat, bit7_toNat, bit7_eq_decide]

theorem rrc8_nats (v : Byte) : shiftNats (rrc8 v) = (v.toNat / 2 + 128 * (v.toNat % 2), decide (v.toNat % 2 = 1)) := by
  rw [shiftNats, rrc8, shiftRight_bit_toNat, bit0_toNat, bit0_eq_decide]

theorem rl8_nats (v : Byte) (c : Bool) : shiftNats (rl8 v c) = ((2 * v.toNat + c.toNat) % 256, decide (128 ≤ v.toNat)) := by
  rw [shiftNats, rl8, shiftLeft_bit_toNat, bit7_eq_decide]

theorem rr8_nats (v : Byte) (c : Bool) : shiftNats (rr8 v c) = (v.toNat / 2 + 128 * c.toNat, decide (v.toNat % 2 = 1)) := by
  rw [shiftNats, rr8, shiftRight_bit_toNat, bit0_eq_decide]

/-- SLA is RL with no carry in. -/
theorem sla8_nats (v : Byte) : shiftNats (sla8 v) = (2 * v.toNat % 256, decide (128 ≤ v.toNat)) := by
  rw [← Nat.add_zero (2 * v.toNat), ← Bool.toNat_false, ← rl8_nats, rl8, sla8]
  exact congrArg (shiftNats ⟨·, _⟩) BitVec.or_zero.symm

/-- SRA is RR with bit 7 coming in. -/
theorem sra8_nats (v : Byte) : shiftNats (sra8 v) = (v.toNat / 2 + 128 * (v.toNat / 128), decide (v.toNat % 2 = 1)) := by
  rw [shiftNats, sra8, and_0x80_eq, shiftRight_bit_toNat, bit7_toNat, bit0_eq_decide]

theorem swap8_nats (v : Byte) : shiftNats (swap8 v) = (16 * (v.toNat % 16) + v.toNat / 16, false) := by
  rw [shiftNats, swap8, swapNibbles_toNat]

theorem srl8_nats (v : Byte) : shiftNats (srl8 v) = (v.toNat / 2, decide (v.toNat % 2 = 1)) := by
  rw [shiftNats, srl8, BitVec.toNat_ushiftRight, Nat.shiftRight_eq_div_pow, bit0_eq_decide]

/-- Operation y of the CB table (R311) on a byte, the carry before being c. -/
def shiftByte (y : Nat) (v : Byte) (c : Bool) : Byte × Bool :=
  if y = 0 then rlc8 v
  else if y = 1 then rrc8 v
  else if y = 2 then rl8 v c
  else if y = 3 then rr8 v c
  else if y = 4 then sla8 v
  else if y = 5 then sra8 v
  else if y = 6 then swap8 v
  else srl8 v

/-- The machine's rotates and shifts are those of R505-R512 in plain arithmetic. -/
theorem shiftByte_nats (y : Nat) (v : Byte) (c : Bool) : shiftNats (shiftByte y v c) = shiftValue y v.toNat c := by
  simp only [shiftByte, shiftValue, apply_ite shiftNats, rlc8_nats, rrc8_nats, rl8_nats, rr8_nats, sla8_nats, sra8_nats,
    swap8_nats, srl8_nats]

theorem cbShift_eq (y : Nat) (p : Place8) (s : State) : cbShift y p s = shiftPlace (shiftByte y · s.flagC) p s := by
  unfold cbShift shiftByte
  split_ifs <;> rfl

/-! ## The rows -/

section Rows

variable {op : Byte} {i : Instr} {b : Nat} {p : Place8}

theorem shift_of_row {y : Nat} (h : (op, i, y, p) ∈ rowsShift) :
    (∀ b3, decodeBytes 0xCB op b3 = i) ∧ ∀ s, exec i s = .next (shiftPlace (shiftByte y · s.flagC) p s) := by
  simp only [← cbShift_eq]
  fin_cases h <;> exact ⟨fun _ => rfl, fun _ => rfl⟩

theorem bit_of_row (h : (op, i, b, p) ∈ rowsBit) :
    (∀ b3, decodeBytes 0xCB op b3 = i) ∧ ∀ s, exec i s = .next (bitPlace b p s) := by
  fin_cases h <;> exact ⟨fun _ => rfl, fun _ => rfl⟩

theorem res_of_row (h : (op, i, b, p) ∈ rowsRes) :
    (∀ b3, decodeBytes 0xCB op b3 = i) ∧ ∀ s, exec i s = .next (resPlace b p s) := by
  fin_cases h <;> exact ⟨fun _ => rfl, fun _ => rfl⟩

theorem set_of_row (h : (op, i, b, p) ∈ rowsSet) :
    (∀ b3, decodeBytes 0xCB op b3 = i) ∧ ∀ s, exec i s = .next (setPlace b p s) := by
  fin_cases h <;> exact ⟨fun _ => rfl, fun _ => rfl⟩

end Rows

/-! ## Rotates and shifts -/

/-- Settles O19: A and F are written with the operation's result and carry; Z is written 0 whatever the result. -/
theorem rotateAccumulator : Obligations.RotateAccumulator := by
  unfold Obligations.RotateAccumulator
  intro op i y h
  obtain ⟨hdec, hexec⟩ : (∀ b2 b3, decodeBytes op b2 b3 = i) ∧
      ∀ s, exec i s = .next (rotateA (shiftByte y · s.flagC) s) := by
    fin_cases h <;> exact ⟨fun _ _ => rfl, fun _ => rfl⟩
  refine ⟨hdec, fun s => ⟨_, hexec s, ?_⟩⟩
  rw [← shiftByte_nats]
  exact ⟨rfl, State.hasFlags_of_f rfl, State.putAF_frame (r := ⟨_, _⟩) rfl⟩

/-- Settles O20: F is written, then the place, with the result and carry of the operation in plain arithmetic. -/
theorem shiftOperand : Obligations.ShiftOperand := by
  unfold Obligations.ShiftOperand
  intro op i y p h
  obtain ⟨hdec, hexec⟩ := shift_of_row h
  refine ⟨hdec, fun s => ?_⟩
  have hvalue : BitVec.ofNat 8 (shiftByte y (s.readPlace p) s.flagC).1.toNat = (shiftByte y (s.readPlace p) s.flagC).1 :=
    (BitVec.ofNat_toNat _ _).trans (BitVec.setWidth_eq _)
  simp only [← shiftByte_nats, shiftNats, hvalue]
  intro hfatal
  obtain ⟨hplace, hflags, hframe⟩ := State.writePlace_frame hfatal rfl
  exact ⟨_, hexec s, trivial, hplace, State.hasFlags_of_f hflags, hframe⟩

/-! ## Bits -/

/-- Settles O21: F is written and nothing else. -/
theorem testBit : Obligations.TestBit := by
  unfold Obligations.TestBit
  intro op i b p h
  obtain ⟨hdec, hexec⟩ := bit_of_row h
  exact ⟨hdec, fun s => ⟨_, hexec s, State.hasFlags_of_f rfl, State.putF_frame [] rfl⟩⟩

/-- A byte with bit b written. -/
def withBit (x : Byte) (b : Nat) (one : Bool) : Byte := if one then x ||| 1#8 <<< b else x &&& ~~~(1#8 <<< b)

theorem withBit_getLsbD (x : Byte) (b : Nat) (one : Bool) {k : Nat} (hk : k < 8) :
    (withBit x b one).getLsbD k = if k = b then one else x.getLsbD k := by
  have hmask : (1#8 <<< b).getLsbD k = decide (k = b) := by
    rw [← BitVec.twoPow, BitVec.getLsbD_twoPow]
    by_cases hb : k = b
    · simp [← hb, hk]
    · simp [hb, Ne.symm hb]
  cases one with
  | false =>
    rw [withBit, if_neg Bool.false_ne_true, BitVec.getLsbD_and, BitVec.getLsbD_not, hmask]
    by_cases hb : k = b <;> simp [hb, hk]
  | true =>
    rw [withBit, if_pos rfl, BitVec.getLsbD_or, hmask]
    by_cases hb : k = b <;> simp [hb]

/-- RES and SET are one operation: the place written with the one bit in it. -/
theorem withBit_of_row {op : Byte} {i : Instr} {b : Nat} {p : Place8} {one : Bool}
    (h : (op, i, b, p) ∈ rowsRes ∧ one = false ∨ (op, i, b, p) ∈ rowsSet ∧ one = true) :
    (∀ b3, decodeBytes 0xCB op b3 = i) ∧
      ∀ s, exec i s = .next (s.writePlace p (withBit (s.readPlace p) b one) (·.tick (p.cost 8 16))) := by
  rcases h with ⟨hrow, rfl⟩ | ⟨hrow, rfl⟩
  · exact res_of_row hrow
  · exact set_of_row hrow

/-- Settles O22: the bits fix the byte that is written; F is written as it was. -/
theorem resetAndSetBit : Obligations.ResetAndSetBit := by
  unfold Obligations.ResetAndSetBit
  intro op i b p one h
  obtain ⟨hdec, hexec⟩ := withBit_of_row h
  refine ⟨hdec, fun s v hbits hfatal => ⟨_, hexec s, ?_⟩⟩
  have hv : v = withBit (s.readPlace p) b one :=
    BitVec.eq_of_getLsbD_eq fun k hk => (hbits k hk).trans (withBit_getLsbD _ b one hk).symm
  rw [← hv]
  obtain ⟨hplace, hflags, hframe⟩ := State.writePlace_frame (f := s.regs.f) hfatal rfl
  exact ⟨hplace, hflags, hframe⟩

end Sys2Proof.Machine
end

section
/-! SUPPORT. Control transfer (44_control.md R540-R551): the rows, what a jump, a call and a return write and leave, and a call
with its return. -/

namespace Sys2Proof.Machine

variable {s t : State} {op : Byte} {i : Instr} {cc : Cond}

/-! ## The rows -/

theorem jpIf_of_row {nn : Word} (h : (op, i, cc) ∈ rowsJpIf nn) :
    (∀ b2 b3, nn = word16 b3 b2 → decodeBytes op b2 b3 = i) ∧ ∀ s, exec i s = .next (jpIf cc nn s) := by
  fin_cases h <;> exact ⟨fun _ _ hnn => hnn ▸ rfl, fun _ => rfl⟩

theorem jrIf_of_row {e : Byte} (h : (op, i, cc) ∈ rowsJrIf e) :
    (∀ b3, decodeBytes op e b3 = i) ∧ ∀ s, exec i s = .next (jrIf cc e s) := by
  fin_cases h <;> exact ⟨fun _ => rfl, fun _ => rfl⟩

theorem callIf_of_row {nn : Word} (h : (op, i, cc) ∈ rowsCallIf nn) :
    (∀ b2 b3, nn = word16 b3 b2 → decodeBytes op b2 b3 = i) ∧ ∀ s, exec i s = .next (callIf cc nn s) := by
  fin_cases h <;> exact ⟨fun _ _ hnn => hnn ▸ rfl, fun _ => rfl⟩

theorem retIf_of_row (h : (op, i, cc) ∈ rowsRetIf) :
    (∀ b2 b3, decodeBytes op b2 b3 = i) ∧ ∀ s, exec i s = .next (retIf cc s) := by
  fin_cases h <;> exact ⟨fun _ _ => rfl, fun _ => rfl⟩

theorem rst_of_row {target : Word} (h : (op, i, target) ∈ rowsRst) :
    (∀ b2 b3, decodeBytes op b2 b3 = i) ∧ ∀ s, exec i s = .next (rst target s) := by
  fin_cases h <;> exact ⟨fun _ _ => rfl, fun _ => rfl⟩

/-! ## Jumps -/

/-- PC, SP and the cost written: what every jump and every return does and leaves. -/
theorem State.transfer_frame {pc sp : Word} {k : Nat} (h : t = { s with pc := pc, sp := sp, cost := k }) :
    t.pc = pc ∧ t.cost = k ∧ s.keepsRegs t [] ∧ s.keepsFlags t ∧ t.sp = sp ∧ s.keepsRest t := by
  subst h
  exact ⟨rfl, rfl, State.keepsRegs_of_regs rfl, rfl, rfl, State.keepsRest_of_eq rfl⟩

theorem jpIf_eq (cc : Cond) (nn : Word) (s : State) :
    jpIf cc nn s = { s with pc := if s.cond cc then nn else s.pc, cost := if s.cond cc then 16 else 12 } := by
  unfold jpIf
  cases s.cond cc <;> rfl

theorem jrIf_eq (cc : Cond) (e : Byte) (s : State) :
    jrIf cc e s = { s with pc := if s.cond cc then s.pc + sext16 e else s.pc, cost := if s.cond cc then 12 else 8 } := by
  unfold jrIf
  cases s.cond cc <;> rfl

/-- A relative target in plain arithmetic (R544): the sum is that of `SPe8(e)`, from PC. -/
theorem add_sext16_toNat (w : Word) (e : Byte) : ((w + sext16 e).toNat : Int) = ((w.toNat : Int) + e.toInt) % 65536 :=
  spPlusE8_toNat w e

/-- Settles O24: PC and the cost are written, in the conditional forms by the condition on the flags before. -/
theorem jumps : Obligations.Jumps := by
  unfold Obligations.Jumps
  refine ⟨fun s => ⟨rfl, rfl, rfl, rfl⟩, fun b2 b3 => ⟨rfl, rfl, rfl, ?_⟩, fun s nn e => ⟨?_, ?_, ?_, ?_, ?_⟩⟩
  · rintro op i cc (hrow | hrow)
    · exact (jpIf_of_row hrow).1 b2 b3 rfl
    · exact (jrIf_of_row hrow).1 b3
  · exact ⟨_, rfl, State.transfer_frame rfl⟩
  · exact ⟨_, rfl, State.transfer_frame rfl⟩
  · exact ⟨_, rfl, add_sext16_toNat s.pc e, (State.transfer_frame (s := s) (t := jr e s) rfl).2⟩
  · exact fun op i cc hrow => ⟨_, (jpIf_of_row hrow).2 s, State.transfer_frame (jpIf_eq cc nn s)⟩
  · intro op i cc hrow
    obtain ⟨hpc, hframe⟩ := State.transfer_frame (jrIf_eq cc e s)
    refine ⟨_, (jrIf_of_row hrow).2 s, ?_, hframe⟩
    rw [hpc, ← add_sext16_toNat]
    split <;> rfl

/-! ## Returns -/

theorem retIf_eq (cc : Cond) (s : State) :
    retIf cc s = { s with pc := if s.cond cc then word16 (s.read (s.sp + 1)) (s.read s.sp) else s.pc,
                          sp := if s.cond cc then s.sp + 2 else s.sp,
                          cost := if s.cond cc then 20 else 8 } := by
  unfold retIf
  cases s.cond cc <;> rfl

/-- Settles O26: PC, SP and the cost are written, and RETI does the same to the state with IME set. -/
theorem returns : Obligations.Returns := by
  unfold Obligations.Returns
  refine ⟨fun b2 b3 => ⟨rfl, rfl, fun op i cc hrow => (retIf_of_row hrow).1 b2 b3⟩, fun s => ⟨?_, ?_, ?_⟩⟩
  · obtain ⟨hpc, hcost, hregs, hflags, hsp, hrest⟩ := State.transfer_frame (s := s) (t := ret s) rfl
    exact ⟨_, rfl, hpc, hsp, hcost, hregs, hflags, hrest⟩
  · obtain ⟨hpc, hcost, hregs, hflags, hsp, hrest⟩ :=
      State.transfer_frame (s := { s with ime := true }) (t := reti s) rfl
    exact ⟨_, rfl, hpc, hsp, hcost, rfl, hregs, hflags, hrest⟩
  · intro op i cc hrow
    obtain ⟨hpc, hcost, hregs, hflags, hsp, hrest⟩ := State.transfer_frame (retIf_eq cc s)
    exact ⟨_, (retIf_of_row hrow).2 s, hpc, hsp, hcost, hregs, hflags, hrest⟩

/-! ## Calls -/

/-- PC pushed and the target taken, at a cost: CALL and RST alike (R546, R551). -/
def callTo (target : Word) (cycles : Nat) (s : State) : State := s.push16 s.pc fun s1 => (s1.jump target).tick cycles

theorem call_eq (nn : Word) : call nn = callTo nn 24 := rfl

theorem rst_eq (target : Word) : rst target = callTo target 16 := rfl

theorem callIf_of_cond (h : s.cond cc = true) (nn : Word) : callIf cc nn s = callTo nn 24 s := by
  rw [callIf, h, cond_true, call_eq]

theorem callIf_of_not_cond (h : s.cond cc = false) (nn : Word) : callIf cc nn s = s.tick 12 := by
  rw [callIf, h, cond_false]

/-- A call whose push is not fatal makes the push's stores, and writes SP, PC and the cost. -/
theorem callTo_of_not_fatal (h : s.storesFatal (pushStores s.sp s.pc) = false) (target : Word) (k : Nat) :
    callTo target k s = { State.storeList (pushStores s.sp s.pc) s with sp := s.sp - 2, pc := target, cost := k } :=
  State.push16_of_not_fatal h _

/-- What a call whose push is not fatal writes and leaves. -/
theorem callTo_frame {target : Word} {k : Nat} (hfatal : s.storesFatal (pushStores s.sp s.pc) = false)
    (h : t = callTo target k s) :
    t.pc = target ∧ t.sp = s.sp - 2 ∧ t.cost = k ∧ s.keepsRegs t [] ∧ s.keepsFlags t ∧
      s.keepsRestBut (pushStores s.sp s.pc) t := by
  rw [callTo_of_not_fatal hfatal] at h
  have hregs : t.regs = s.regs := by rw [h, State.storeList_eq]
  exact ⟨by rw [h], by rw [h], by rw [h], State.keepsRegs_of_regs hregs, congrArg Regs.f hregs,
    State.keepsRestBut_of_eq (by rw [h])⟩

/-- Settles O25: CALL, a CALL cc taken and RST are one `callTo`; a CALL cc not taken writes the cost alone. -/
theorem callsAndRestarts : Obligations.CallsAndRestarts := by
  unfold Obligations.CallsAndRestarts
  refine ⟨fun b2 b3 => ⟨rfl, fun op i cc hrow => (callIf_of_row hrow).1 b2 b3 rfl,
    fun op i target hrow => (rst_of_row hrow).1 b2 b3⟩, fun s nn => ⟨?_, ?_⟩⟩
  · intro i target cycles hform hfatal
    have hexec : exec i s = .next (callTo target cycles s) := by
      rcases hform with hcall | ⟨op, cc, hrow, hcond, rfl, rfl⟩ | ⟨op, hrow, rfl⟩
      · cases hcall
        rw [← call_eq]
        rfl
      · rw [(callIf_of_row hrow).2, callIf_of_cond hcond]
      · rw [(rst_of_row hrow).2, rst_eq]
    exact ⟨_, hexec, callTo_frame hfatal rfl⟩
  · intro op i cc hrow hcond
    rw [(callIf_of_row hrow).2, callIf_of_not_cond hcond]
    obtain ⟨hpc, hcost, hregs, hflags, hsp, hrest⟩ := State.transfer_frame (s := s) (t := s.tick 12) rfl
    exact ⟨_, rfl, hpc, hsp, hcost, hregs, hflags, hrest⟩

/-! ## A call and its return -/

/-- What a pop finds after a call on plain storage: the following instruction's address, and SP as it was before the call. -/
theorem pop16_callTo (target : Word) (k : Nat) (hinv : s.Inv) (hhigh : s.mmu.holds (s.sp - 1) = true)
    (hlow : s.mmu.holds (s.sp - 2) = true) : (callTo target k s).pop16 = (s.pc, (callTo target k s).setSP s.sp) := by
  have hnext : s.sp - 2 + 1 = s.sp - 1 := by bv_omega
  have hback : s.sp - 2 + 2 = s.sp := by bv_omega
  obtain ⟨hreadHigh, hreadLow⟩ := State.read_pushed hinv s.pc hhigh hlow
  rw [callTo_of_not_fatal (pushStores_not_fatal _ hhigh hlow)]
  refine Prod.ext ?_ (congrArg (State.setSP _) hback)
  rw [← hnext] at hreadHigh
  exact (congrArg₂ word16 hreadHigh hreadLow).trans (word16_hi8_lo8 _)

/-- Settles O27: RET pops the pushed address from plain storage, and of the registers neither writes any but SP and PC. -/
theorem callReturnRoundTrip : Obligations.CallReturnRoundTrip := by
  unfold Obligations.CallReturnRoundTrip
  intro s i hform hinv hhigh hlow
  obtain ⟨target, k, hexec⟩ : ∃ target k, exec i s = .next (callTo target k s) := by
    rcases hform with ⟨nn, rfl⟩ | ⟨op, target, hrow⟩
    · exact ⟨nn, 24, call_eq nn ▸ rfl⟩
    · exact ⟨target, 16, rst_eq target ▸ (rst_of_row hrow).2 s⟩
  have hret : ret (callTo target k s) = { callTo target k s with sp := s.sp, pc := s.pc, cost := 16 } := by
    rw [ret, State.popPC, pop16_callTo target k hinv hhigh hlow]
    rfl
  obtain ⟨-, -, -, hregs, hflags, -⟩ := callTo_frame (pushStores_not_fatal _ hhigh hlow) (rfl : callTo target k s = _)
  exact ⟨_, _, hexec, congrArg Host.Outcome.next hret, rfl, rfl, hregs, hflags⟩

end Sys2Proof.Machine
end

section
/-! SUPPORT. System instructions (45_system.md R570-R575): 0xCB by the rows of the CB map, the effects of NOP, HALT,
DI, EI and STOP, and the step after EI (60_exceptions.md R612). -/

namespace Sys2Proof.Machine

variable {s : State}

/-! ## The CB map -/

/-- The rows of the CB map whose second byte has the field x (R302, R311). -/
def cbRowsOf (x : Nat) : List (Byte × Instr × Nat × Place8) :=
  if x = 0 then rowsShift else if x = 1 then rowsBit else if x = 2 then rowsRes else rowsSet

theorem cbCell_mem_cbRowsOf : ∀ op : Byte,
    (op, cbCell op, (op >>> 3 &&& 7).toNat, place8 (op &&& 7).toNat) ∈ cbRowsOf (op >>> 6).toNat := by decide

/-- The instruction the CB map names by a byte does what the byte's fields say (R504, R513-R515, R575). -/
theorem exec_cbCell (op : Byte) (s : State) : exec (cbCell op) s = .next (cbEffect op s) := by
  have hrow := cbCell_mem_cbRowsOf op
  unfold cbRowsOf at hrow
  unfold cbEffect
  simp only
  split_ifs at hrow ⊢
  · rw [cbShift_eq]
    exact (shift_of_row hrow).2 s
  · exact (bit_of_row hrow).2 s
  · exact (res_of_row hrow).2 s
  · exact (set_of_row hrow).2 s

/-- Settles O23: 0xCB is `cbEffect` of the byte at PC, and so is the instruction that byte names. -/
theorem prefixDispatch : Obligations.PrefixDispatch := by
  unfold Obligations.PrefixDispatch
  intro s
  refine ⟨cbPrefixed s, rfl, ?_⟩
  rw [decodeBytes_cb]
  exact exec_cbCell _ _

/-! ## NOP, HALT, DI, EI -/

/-- Settles O28: each writes fields that no read depends on. -/
theorem nopHaltDiEi : Obligations.NopHaltDiEi := by
  unfold Obligations.NopHaltDiEi
  refine ⟨fun _ _ => ⟨rfl, rfl, rfl, rfl⟩, fun s i t hrow => ?_⟩
  fin_cases hrow <;> exact ⟨rfl, fun _ => rfl⟩

/-! ## The step after EI -/

/-- No source is dispatched while IME is clear or none is ready, and a CPU that runs has no HALT to leave (R605). -/
theorem stepCycles_of_no_dispatch (hrunning : s.halted = false) (hnone : s.ime = false ∨ s.mmu.readySource = none) :
    s.stepCycles = s.runOne := by
  unfold State.stepCycles
  cases hready : s.mmu.readySource with
  | none => rfl
  | some i =>
    have hime : s.ime = false := hnone.resolve_right (by simp [hready])
    simp [hime, hrunning]

theorem applyPendingEnable_of_pending (h : s.imePending = true) :
    s.applyPendingEnable = { s with ime := true, imePending := false } := if_pos h

theorem debugHook_of_no_breakpoint (h : s.pc ∉ s.config.breakpoints) : s.debugHook = s := if_neg h

theorem atFetch_of_pending (hpending : s.imePending = true) (hbreak : s.pc ∉ s.config.breakpoints) :
    s.atFetch = { s with ime := true, imePending := false } := by
  unfold State.atFetch
  rw [applyPendingEnable_of_pending hpending]
  exact debugHook_of_no_breakpoint hbreak

/-- A CPU that runs fetches unless the debugger's hook ended in a fatal condition (R612, R16). -/
theorem runOne_of_running (hrunning : s.halted = false) (hfault : s.atFetch.fault = none) : s.runOne = s.atFetch.fetchExec := by
  unfold State.atFetch at hfault ⊢
  unfold State.runOne
  rw [if_neg (by simp [hrunning]), if_neg (by simp [hfault])]

/-- Settles O29: the interrupt check lets the step go on, the pending enable is applied, and the instruction at PC runs. -/
theorem enableTakesOneInstruction : Obligations.EnableTakesOneInstruction := by
  unfold Obligations.EnableTakesOneInstruction
  intro s hfault hpending hrunning hbreak hnone
  have hfetch := atFetch_of_pending hpending hbreak
  rw [stepCycles_of_no_dispatch hrunning hnone, runOne_of_running hrunning (by rw [hfetch]; exact hfault), hfetch]
  rfl

/-! ## STOP -/

/-- PC after STOP: past the ignored byte when STOP_LENGTH is 2 (R572). -/
def State.pastStop (s : State) : Word := s.pc + (if s.config.stopLength = .two then 1 else 0)

theorem State.skipStopByte_eq (s : State) : s.skipStopByte = { s with pc := s.pastStop } := by
  unfold State.skipStopByte State.pastStop
  cases hlen : s.config.stopLength with
  | one => simp
  | two => rfl

theorem stopCpu_of_dmg (hdmg : s.mmu.cgb = false) :
    stopCpu s = { s with pc := s.pastStop, fault := some (.f6StopOnDmg (s.pc - 1)) } := by
  simp [stopCpu, hdmg, State.skipStopByte_eq, State.raise]

theorem stopCpu_of_not_armed (hcgb : s.mmu.cgb = true) (hidle : s.mmu.key1Armed = false) :
    stopCpu s = { s with pc := s.pastStop, cost := 4 } := by
  simp [stopCpu, hcgb, hidle, State.skipStopByte_eq, State.tick]

theorem stopCpu_of_armed (hcgb : s.mmu.cgb = true) (harmed : s.mmu.key1Armed = true) :
    stopCpu s = { s with pc := s.pastStop, cost := 4, mmu := s.mmu.switchSpeed } := by
  simp [stopCpu, hcgb, harmed, State.skipStopByte_eq, State.tick]

/-- Of the I/O page, only KEY1 shows the speed and its arming (R127). -/
theorem ioRead_switchSpeed (m : Mmu) {k : Nat} (hk : k ≠ 0x4D) : m.switchSpeed.ioRead k = m.ioRead k := by
  unfold Mmu.ioRead Mmu.switchSpeed
  cases hreg : ioReg m.cgb k with
  | key1 => exact absurd (ioReg_of_eq hreg (by decide)) hk
  | _ => rfl

theorem read_switchSpeed (m : Mmu) (cfg : Config) {x : Word} (hx : x ≠ 0xFF4D) : m.switchSpeed.read cfg x = m.read cfg x := by
  refine read_of_same rfl rfl rfl rfl rfl rfl (fun _ _ => ⟨rfl, rfl⟩) (fun _ _ => ⟨rfl, rfl⟩) fun k hio => ?_
  obtain ⟨hoffset, -⟩ := locate_io hio
  exact ioRead_switchSpeed m fun hkey1 => hx (BitVec.eq_of_toNat_eq (by rw [hoffset, hkey1]; rfl))

/-- Settles O30: past the ignored byte, STOP raises F6, only takes its cycles, or switches the speed, which KEY1 alone shows. -/
theorem stopInstruction : Obligations.StopInstruction := by
  unfold Obligations.StopInstruction
  refine ⟨fun _ _ => rfl, fun s => ⟨fun hdmg => ?_, fun hcgb hidle => ?_, fun hcgb harmed => ?_⟩⟩
  · exact congrArg Host.Outcome.next (stopCpu_of_dmg hdmg)
  · exact congrArg Host.Outcome.next (stopCpu_of_not_armed hcgb hidle)
  · refine ⟨_, congrArg Host.Outcome.next (stopCpu_of_armed hcgb harmed), rfl, fun x hx => ?_⟩
    exact read_switchSpeed s.mmu s.config hx

end Sys2Proof.Machine
end

section
/-! SUPPORT. The video controller over time (60_exceptions.md R640-R650): its transitions one by one, the loop of `video_step` as
their repetition, and the position in the frame (O53, O52, O51). -/

namespace Sys2Proof.Machine

/-! ## The transitions -/

/-- The line after this one, its first 456 cycles taken off (R643). -/
def Video.nextLine (v : Video) : Video := { v with lineCycles := v.lineCycles - 456, ly := v.ly + 1 }

/-- Every transition, when it is due and what it makes (R643). -/
theorem transition_cases {v : Video} {cgb : Bool} {sh : Shades} {q : Video × List HostOutput}
    (h : v.transition cgb sh = some q) :
    (v.mode = .oamSearch ∧ 80 ≤ v.lineCycles ∧ q = (v.afterTransfer, [.line (v.armWindow.composeRow cgb sh) v.ly])) ∨
    (v.mode = .transfer ∧ 252 ≤ v.lineCycles ∧ q = (v.enterHblank, [])) ∨
    (v.mode = .hblank ∧ 456 ≤ v.lineCycles ∧ v.ly + 1 = 144 ∧ q = (v.nextLine.enterVblank, [.frame])) ∨
    (v.mode = .hblank ∧ 456 ≤ v.lineCycles ∧ v.ly + 1 ≠ 144 ∧ q = (v.nextLine.enterOam, [])) ∨
    (v.mode = .vblank ∧ 456 ≤ v.lineCycles ∧ v.ly + 1 = 154 ∧ q = (Video.enterOam { v.nextLine with ly := 0 }, [])) ∨
    (v.mode = .vblank ∧ 456 ≤ v.lineCycles ∧ v.ly + 1 ≠ 154 ∧ q = (v.nextLine.checkCoincidence, [])) := by
  unfold Video.transition at h
  split at h
  case h_1 hm =>
    split_ifs at h with hdue
    cases h
    exact .inl ⟨hm, hdue, rfl⟩
  case h_2 hm =>
    split_ifs at h with hdue
    cases h
    exact .inr (.inl ⟨hm, hdue, rfl⟩)
  case h_3 hm =>
    simp only at h
    split_ifs at h with hdue hly <;> cases h
    · exact .inr (.inr (.inl ⟨hm, hdue, hly, rfl⟩))
    · exact .inr (.inr (.inr (.inl ⟨hm, hdue, hly, rfl⟩)))
  case h_4 hm =>
    simp only at h
    split_ifs at h with hdue hly <;> cases h
    · exact .inr (.inr (.inr (.inr (.inl ⟨hm, hdue, hly, rfl⟩))))
    · exact .inr (.inr (.inr (.inr (.inr ⟨hm, hdue, hly, rfl⟩))))

/-- What every transition keeps, with the calls it has made so far, the loop keeps. -/
theorem advance_keeps {cgb : Bool} {sh : Shades} {P : Video × List HostOutput → Prop}
    (hstep : ∀ p q, p.1.transition cgb sh = some q → P p → P (q.1, p.2 ++ q.2)) (fuel : Nat) :
    ∀ p, P p → P (Video.advance cgb sh fuel p) := by
  induction fuel with
  | zero => exact fun _ hp => hp
  | succ n ih =>
    intro p hp
    unfold Video.advance
    split
    · exact hp
    · next q hq => exact ih _ (hstep p q hq hp)

/-- `advance_keeps` for a step of the controller: the cycles are added first, and no call has been made. -/
theorem videoStep_keeps {v : Video} {cgb : Bool} {sh : Shades} {n : Nat} {P : Video × List HostOutput → Prop}
    (hstep : ∀ p q, p.1.transition cgb sh = some q → P p → P (q.1, p.2 ++ q.2)) (hon : v.lcdOn = true)
    (h : P ({ v with lineCycles := v.lineCycles + n }, [])) : P (v.step cgb sh n) := by
  unfold Video.step
  rw [if_pos hon]
  exact advance_keeps hstep _ _ h

/-! ## The calls of a frame -/

/-- A call to the host without its colours: the line it draws, or none for `render_frame`; the title, which the controller never
reports, counts as a line beyond all. -/
def HostOutput.call : HostOutput → Option Nat
  | .line _ ly => some ly.toNat
  | .frame => none
  | .title _ => some 256

/-- The calls of a frame in order (R642): the lines 0 to 143, then `render_frame`. -/
def frameCalls : List (Option Nat) := (List.range 144).map some ++ [none]

theorem frameCalls_length : frameCalls.length = 145 := by simp [frameCalls]

theorem frameCalls_getElem? {l : Nat} (h : l < 144) : frameCalls[l]? = some (some l) := by
  simp [frameCalls, List.getElem?_append, h]

theorem frameCalls_nodup : frameCalls.Nodup := by
  exact List.nodup_append'.2 ⟨List.nodup_range.map (Option.some_injective _), List.nodup_singleton _, by simp⟩

/-- How many of its frame's calls the controller has made: a line is drawn as its pixel transfer begins (R646, R648). -/
def Video.callsMade (v : Video) : Nat :=
  match v.mode with
  | .oamSearch => v.ly.toNat
  | .transfer => v.ly.toNat + 1
  | .hblank => v.ly.toNat + 1
  | .vblank => 145

/-- Where the controller stands in a frame of 154 lines of 456 cycles (R642). Irreducible, so that unification does not compute
with its numerals. -/
@[irreducible] def Video.position (v : Video) : Nat := v.ly.toNat * 456 + v.lineCycles

@[simp] theorem nextLine_mode (v : Video) : v.nextLine.mode = v.mode := rfl
@[simp] theorem nextLine_lineCycles (v : Video) : v.nextLine.lineCycles = v.lineCycles - 456 := rfl

theorem nextLine_ly_toNat {v : Video} (h : v.ly.toNat < 154) : v.nextLine.ly.toNat = v.ly.toNat + 1 := by
  unfold Video.nextLine; bv_omega

/-- A transition keeps the windows and the position, and makes the frame's next call or none; the one that ends the frame, all
of whose calls are made, goes back by a frame's 70224 cycles. -/
theorem transition_call {v : Video} {cgb : Bool} {sh : Shades} {q : Video × List HostOutput}
    (h : v.transition cgb sh = some q) (hp : v.placing) : q.1.placing ∧
      ((q.2.map HostOutput.call = frameCalls[v.callsMade]?.toList ∧ q.1.callsMade = v.callsMade + 1 ∧
          q.1.position = v.position) ∨
        (q.2 = [] ∧ q.1.callsMade = v.callsMade ∧ q.1.position = v.position) ∨
        (q.2 = [] ∧ v.callsMade = 145 ∧ q.1.callsMade = 0 ∧ q.1.position + 70224 = v.position)) := by
  rcases transition_cases h with ⟨hm, hdue, rfl⟩ | ⟨hm, hdue, rfl⟩ | ⟨hm, hdue, hly, rfl⟩ | ⟨hm, hdue, hly, rfl⟩ |
    ⟨hm, hdue, hly, rfl⟩ | ⟨hm, hdue, hly, rfl⟩ <;> simp only [Video.placing, hm] at hp
  · exact ⟨by simp [Video.placing, hp, hdue], .inl ⟨by simp [Video.callsMade, hm, hp, HostOutput.call, frameCalls_getElem?],
      by simp [Video.callsMade, hm], by simp [Video.position]⟩⟩
  · exact ⟨by simp [Video.placing, hp, hdue], .inr (.inl ⟨rfl, by simp [Video.callsMade, hm], by simp [Video.position]⟩)⟩
  · have hnext := nextLine_ly_toNat (v := v) (by omega)
    have hlast : v.ly.toNat = 143 := by bv_omega
    exact ⟨by simp [Video.placing, hnext, hlast], .inl ⟨by simp [Video.callsMade, hm, hlast, HostOutput.call, frameCalls],
      by simp [Video.callsMade, hm, hlast], by simp [Video.position, hnext]; omega⟩⟩
  · have hnext := nextLine_ly_toNat (v := v) (by omega)
    have hlast : v.ly.toNat ≠ 143 := fun e => hly (by bv_omega)
    exact ⟨by simp [Video.placing, hnext]; omega, .inr (.inl ⟨rfl, by simp [Video.callsMade, hm, hnext],
      by simp [Video.position, hnext]; omega⟩)⟩
  · have hlast : v.ly.toNat = 153 := by bv_omega
    exact ⟨by simp [Video.placing], .inr (.inr ⟨rfl, by simp [Video.callsMade, hm], by simp [Video.callsMade],
      by simp [Video.position, hlast]; omega⟩)⟩
  · have hnext := nextLine_ly_toNat (v := v) (by omega)
    have hlast : v.ly.toNat ≠ 153 := fun e => hly (by bv_omega)
    have hmode : v.nextLine.checkCoincidence.mode = .vblank := hm
    exact ⟨by simp [Video.placing, hmode, checkCoincidence_ly, hnext]; omega, .inr (.inl ⟨rfl, by simp [Video.callsMade, hm, hmode],
      by simp [Video.position, checkCoincidence_ly, checkCoincidence_lineCycles, hnext]; omega⟩)⟩

/-- A run that begins in a frame with the calls `before` already made, and ends at p: in all the calls of k whole frames and those
of the frame p stands in. Counted from the first frame's beginning p is k frames and its own position on. -/
structure RunOfFrames (before : List (Option Nat)) (cycles k : Nat) (p : Video × List HostOutput) : Prop where
  placing : p.1.placing
  calls : before ++ p.2.map HostOutput.call = (List.replicate k frameCalls).flatten ++ frameCalls.take p.1.callsMade
  cycles : p.1.position + 70224 * k = cycles

theorem RunOfFrames.transition {before : List (Option Nat)} {cycles k : Nat} {p q : Video × List HostOutput} {cgb : Bool}
    {sh : Shades} (hq : p.1.transition cgb sh = some q) (h : RunOfFrames before cycles k p) :
    ∃ k', RunOfFrames before cycles k' (q.1, p.2 ++ q.2) := by
  obtain ⟨hplacing, hcalls, hcycles⟩ := h
  obtain ⟨hplacing', ⟨hout, hmade, hpos⟩ | ⟨hout, hmade, hpos⟩ | ⟨hout, hall, hmade, hpos⟩⟩ := transition_call hq hplacing
  · refine ⟨k, hplacing', ?_, (congrArg (· + 70224 * k) hpos).trans hcycles⟩
    rw [List.map_append, ← List.append_assoc, hcalls, hout, hmade, List.take_add_one, List.append_assoc]
  · exact ⟨k, hplacing', by rw [hout, List.append_nil, hcalls, hmade], by rw [hpos, hcycles]⟩
  · refine ⟨k + 1, hplacing', ?_, by rw [← hcycles, ← hpos]; ring⟩
    rw [hout, List.append_nil, hcalls, hmade, hall, List.replicate_succ', List.flatten_append, ← frameCalls_length, List.take_length,
      List.take_zero, List.append_nil, List.flatten_singleton]

/-- What a step of the controller draws, and where it leaves it (R642). -/
theorem videoStep_runOfFrames {v : Video} (cgb : Bool) (sh : Shades) (n : Nat) (hon : v.lcdOn = true) (h : v.placed) :
    ∃ k, RunOfFrames (frameCalls.take v.callsMade) (v.position + n) k (v.step cgb sh n) := by
  refine videoStep_keeps (P := fun p => ∃ k, RunOfFrames _ _ k p) (fun p q hq ⟨k, hk⟩ => hk.transition hq) hon ⟨0, ?_⟩
  exact ⟨placing_of_placed hon h n, List.append_nil _, by simp [Video.position, Nat.add_assoc]⟩

/-- After a step of the controller no transition is due, so it stands in its mode's window. -/
theorem RunOfFrames.placed {v : Video} {cgb : Bool} {sh : Shades} {n k cycles : Nat} {before : List (Option Nat)}
    (h : RunOfFrames before cycles k (v.step cgb sh n)) (hon : v.lcdOn = true) : (v.step cgb sh n).1.placed :=
  placed_of_placing ((videoStep_drawn v cgb sh n).lcdOn.trans hon) h.placing (videoStep_settles v cgb sh n hon)

/-- A window is a part of a line, and a line one of 154. -/
theorem position_lt {v : Video} (hon : v.lcdOn = true) (h : v.placed) : v.position < 70224 := by
  unfold Video.placed at h
  rw [if_pos hon] at h
  unfold Video.position
  split at h <;> omega

/-- The position is the run's cycles modulo a frame. -/
theorem RunOfFrames.position_eq {before : List (Option Nat)} {cycles k : Nat} {p : Video × List HostOutput}
    (h : RunOfFrames before cycles k p) (hon : p.1.lcdOn = true) (hp : p.1.placed) : p.1.position = cycles % 70224 := by
  have hlt := position_lt hon hp
  have hcycles := h.cycles
  omega

/-- The position tells the line and the mode, and so the calls made. -/
theorem callsMade_of_position {v w : Video} (hv : v.lcdOn = true) (hw : w.lcdOn = true) (hpv : v.placed) (hpw : w.placed)
    (h : v.position = w.position) : v.callsMade = w.callsMade := by
  unfold Video.placed at hpv hpw
  rw [if_pos hv] at hpv
  rw [if_pos hw] at hpw
  unfold Video.position at h
  unfold Video.callsMade
  cases hmv : v.mode <;> cases hmw : w.mode <;> simp only [hmv, hmw] at hpv hpw ⊢ <;> omega

/-- Over a frame's cycles the controller makes a frame's calls, in the order that begins where it stands (R642). -/
theorem videoStep_frame_calls {v : Video} (cgb : Bool) (sh : Shades) (hon : v.lcdOn = true) (h : v.placed) :
    ((v.step cgb sh 70224).2.map HostOutput.call).Perm frameCalls := by
  obtain ⟨k, hrun⟩ := videoStep_runOfFrames cgb sh 70224 hon h
  have hon' : (v.step cgb sh 70224).1.lcdOn = true := (videoStep_drawn v cgb sh 70224).lcdOn.trans hon
  have hbegin := position_lt hon h
  have hend := position_lt hon' (hrun.placed hon)
  have hcycles := hrun.cycles
  obtain rfl : k = 1 := by omega
  have hmade := callsMade_of_position hon' hon (hrun.placed hon) h (by omega)
  have hcalls := hrun.calls
  rw [hmade, List.replicate_one, List.flatten_singleton] at hcalls
  refine (List.perm_append_left_iff (frameCalls.take v.callsMade)).1 ?_
  rw [hcalls]
  exact List.perm_append_comm

/-- Over a frame's cycles each of its calls is made once. -/
theorem videoStep_frame_once {v : Video} (cgb : Bool) (sh : Shades) (hon : v.lcdOn = true) (h : v.placed)
    {c : Option Nat} (hc : c ∈ frameCalls) {p : HostOutput → Bool} (hp : ∀ o, p o = (o.call == c)) :
    ((v.step cgb sh 70224).2.filter p).length = 1 := by
  have hp' : p = (· == c) ∘ HostOutput.call := funext hp
  rw [← List.countP_eq_length_filter, hp', ← List.countP_map]
  exact ((videoStep_frame_calls cgb sh hon h).count_eq c).trans (List.count_eq_one_of_mem frameCalls_nodup hc)

/-- Settles O53: the calls of a run are whole frames and a frame's beginning, and the position is the run's cycles. -/
theorem frameOfRows : Obligations.FrameOfRows := by
  unfold Obligations.FrameOfRows
  intro v cgb sh hon hplaced
  refine ⟨fun n => ?_, fun l hl => ?_, ?_, ?_⟩
  · obtain ⟨k, hrun⟩ := videoStep_runOfFrames cgb sh n hon hplaced
    have hpos := hrun.position_eq ((videoStep_drawn v cgb sh n).lcdOn.trans hon) (hrun.placed hon)
    unfold Video.position at hpos
    exact ⟨hrun.placed hon, hpos⟩
  · refine videoStep_frame_once cgb sh hon hplaced (c := some l) (by simp [frameCalls, hl]) fun o => ?_
    cases o with
    | line row ly => rfl
    | frame => rfl
    | title bytes => simp [HostOutput.call]; omega
  · refine videoStep_frame_once cgb sh hon hplaced (c := none) (by simp [frameCalls]) fun o => ?_
    cases o with
    | line row ly => rfl
    | frame => rfl
    | title bytes => rfl
  · rw [← List.length_map, (videoStep_frame_calls cgb sh hon hplaced).length_eq, frameCalls_length]

end Sys2Proof.Machine
end

section
/-! SUPPORT. The loop of `video_step` unrolled (60_exceptions.md R643-R649, O52), and the switch of the LCD (R650, O51). -/

namespace Sys2Proof.Machine

variable {v : Video} {cgb : Bool} {sh : Shades}

/-! ## The loop unrolled -/

/-- The calls made before the loop stand before those it makes. -/
theorem advance_append (fuel : Nat) : ∀ (v : Video) (out : List HostOutput), Video.advance cgb sh fuel (v, out) =
    ((Video.advance cgb sh fuel (v, [])).1, out ++ (Video.advance cgb sh fuel (v, [])).2) := by
  induction fuel with
  | zero => exact fun _ out => Prod.ext rfl (List.append_nil out).symm
  | succ n ih =>
    intro v out
    unfold Video.advance
    cases v.transition cgb sh with
    | none => simp
    | some q => simp only; rw [ih, ih q.1 ([] ++ q.2)]; simp

/-- Fuel beyond what the loop needs changes nothing. -/
theorem advance_fuel (fuel : Nat) : ∀ (p : Video × List HostOutput) (fuel' : Nat), p.1.rank < fuel → p.1.rank < fuel' →
    Video.advance cgb sh fuel p = Video.advance cgb sh fuel' p := by
  induction fuel with
  | zero => intro p fuel' h; omega
  | succ n ih =>
    intro p fuel' h h'
    obtain ⟨m, rfl⟩ : ∃ m, fuel' = m + 1 := ⟨fuel' - 1, by omega⟩
    unfold Video.advance
    cases hq : p.1.transition cgb sh with
    | none => rfl
    | some q =>
      have hrank := transition_rank hq
      exact ih _ m (by simp only; omega) (by simp only; omega)

/-- A step of n cycles is the loop from v with the cycles added, run to its end. -/
theorem videoStep_loop {n fuel : Nat} (hon : v.lcdOn = true) (h : v.rank + n < fuel) :
    v.step cgb sh n = Video.advance cgb sh fuel ({ v with lineCycles := v.lineCycles + n }, []) := by
  unfold Video.step
  rw [if_pos hon]
  unfold Video.rank at h
  refine advance_fuel _ _ _ ?_ ?_ <;> unfold Video.rank <;> cases hm : v.mode <;> simp only [hm] at h ⊢ <;> omega

/-- A transition that is due comes first, and the loop goes on from it with no further cycles (R643). -/
theorem videoStep_of_transition {n : Nat} {q : Video × List HostOutput} (hon : v.lcdOn = true)
    (h : Video.transition { v with lineCycles := v.lineCycles + n } cgb sh = some q) :
    v.step cgb sh n = ((q.1.step cgb sh 0).1, q.2 ++ (q.1.step cgb sh 0).2) := by
  have hon' : q.1.lcdOn = true := (transition_drawn h).lcdOn.trans hon
  have hrank : q.1.rank < v.rank + n := by
    have hlt := transition_rank h
    unfold Video.rank at hlt ⊢
    cases hm : v.mode <;> simp only [hm] at hlt ⊢ <;> omega
  calc v.step cgb sh n
      = Video.advance cgb sh (v.rank + n + 1 + 1) ({ v with lineCycles := v.lineCycles + n }, []) :=
        videoStep_loop hon (by omega)
    _ = Video.advance cgb sh (v.rank + n + 1) (q.1, q.2) := by rw [Video.advance]; simp only [h, List.nil_append]
    _ = ((q.1.step cgb sh 0).1, q.2 ++ (q.1.step cgb sh 0).2) := by
        rw [advance_append, videoStep_loop hon' (show q.1.rank + 0 < v.rank + n + 1 by omega)]
        rfl

/-- With no transition due the cycles are added and nothing more happens. -/
theorem videoStep_of_no_transition {n : Nat} (hon : v.lcdOn = true)
    (h : Video.transition { v with lineCycles := v.lineCycles + n } cgb sh = none) :
    v.step cgb sh n = ({ v with lineCycles := v.lineCycles + n }, []) := by
  rw [videoStep_loop hon (Nat.lt_succ_self _), Video.advance]
  simp only [h]

/-! ## The transitions, written out -/

section Transitions

variable (cgb sh)

theorem transition_of_oamSearch (hm : v.mode = .oamSearch) (hdue : 80 ≤ v.lineCycles) :
    v.transition cgb sh = some (v.afterTransfer, [.line (v.armWindow.composeRow cgb sh) v.ly]) := by
  unfold Video.transition; rw [hm]; exact if_pos hdue

theorem transition_of_transfer (hm : v.mode = .transfer) (hdue : 252 ≤ v.lineCycles) :
    v.transition cgb sh = some (v.enterHblank, []) := by
  unfold Video.transition; rw [hm]; exact if_pos hdue

theorem transition_of_lastLine (hm : v.mode = .hblank) (hdue : 456 ≤ v.lineCycles) (hly : v.ly + 1 = 144) :
    v.transition cgb sh = some (v.nextLine.enterVblank, [.frame]) := by
  simp only [Video.transition, Video.nextLine, hm, hdue, hly, if_true]

theorem transition_of_line (hm : v.mode = .hblank) (hdue : 456 ≤ v.lineCycles) (hly : v.ly + 1 ≠ 144) :
    v.transition cgb sh = some (v.nextLine.enterOam, []) := by
  simp only [Video.transition, Video.nextLine, hm, hdue, hly, if_true, if_false]

theorem transition_of_lastVblankLine (hm : v.mode = .vblank) (hdue : 456 ≤ v.lineCycles) (hly : v.ly + 1 = 154) :
    v.transition cgb sh = some (Video.enterOam { v.nextLine with ly := 0 }, []) := by
  simp only [Video.transition, Video.nextLine, hm, hdue, hly, if_true]

theorem transition_of_vblankLine (hm : v.mode = .vblank) (hdue : 456 ≤ v.lineCycles) (hly : v.ly + 1 ≠ 154) :
    v.transition cgb sh = some (v.nextLine.checkCoincidence, []) := by
  simp only [Video.transition, Video.nextLine, hm, hdue, hly, if_true, if_false]

/-- The cycle at which the mode ends (R640, R643). -/
def LcdMode.ends : LcdMode → Nat
  | .oamSearch => 80
  | .transfer => 252
  | .hblank => 456
  | .vblank => 456

theorem transition_of_early (h : v.lineCycles < v.mode.ends) : v.transition cgb sh = none := by
  unfold Video.transition
  cases hm : v.mode <;> rw [hm] at h <;> exact if_neg (Nat.not_le.2 h)

end Transitions

/-- The window armed and its line counted (R646). -/
theorem armWindow_eq (v : Video) : v.armWindow =
    { v with windowStarted := v.windowStarted || decide (v.windowStarted = false ∧ v.ly = v.wy),
             windowLine := if decide (v.windowStarted = false ∧ v.ly = v.wy) then 0 else v.windowLine } := by
  unfold Video.armWindow
  by_cases h : v.windowStarted = false ∧ v.ly = v.wy <;> simp [h]

/-- The sprite scan (R645). -/
theorem spriteScan_eq (v : Video) (ly : Nat) : v.spriteScan ly = ((List.range 40).filter fun k =>
    decide ((v.oam.read (4 * k)).toNat ≤ ly + 16 ∧
      ly + 16 < (v.oam.read (4 * k)).toNat + if v.lcdc.getLsbD 2 then 16 else 8)).take 10 := by
  simp only [Bool.decide_and, ← cond_eq_ite]
  rfl

/-- OAM-search entry after line next, the cycles having been added, sees the sprites and the registers there were before. -/
theorem enterOam_line (v : Video) (c : Nat) (next : Byte) : Video.enterOam { v with lineCycles := c, ly := next } =
    { v with mode := .oamSearch, lineCycles := c, ly := next, sprites := v.spriteScan next.toNat,
             coincidence := decide (next = v.lyc),
             pendingStat := v.pendingStat || v.statEnable.getLsbD 2 || (decide (next = v.lyc) && v.statEnable.getLsbD 3) } := rfl

/-- Settles O52: in each mode the transition that is due. -/
theorem videoLoop : Obligations.VideoLoop := by
  unfold Obligations.VideoLoop
  intro v cgb sh n hon
  refine ⟨fun hm hdue => ?_, fun hm hdue => ?_, fun hm hdue hly => ?_, fun hm hdue hly => ?_, fun hm hdue hly => ?_,
    fun hm hdue hly => ?_, fun hdue => ?_⟩
  · rw [videoStep_of_transition hon (transition_of_oamSearch cgb sh hm hdue), Video.afterTransfer, armWindow_eq]
    simp only [cond_eq_ite]
  · rw [videoStep_of_transition hon (transition_of_transfer cgb sh hm hdue)]
    rfl
  · rw [videoStep_of_transition hon (transition_of_lastLine cgb sh hm hdue hly)]
    rfl
  · rw [videoStep_of_transition hon (transition_of_line cgb sh hm hdue hly), Video.nextLine, enterOam_line, spriteScan_eq]
  · rw [videoStep_of_transition hon (transition_of_lastVblankLine cgb sh hm hdue hly), Video.nextLine, enterOam_line,
      spriteScan_eq]
  · rw [videoStep_of_transition hon (transition_of_vblankLine cgb sh hm hdue hly)]
    rfl
  · exact videoStep_of_no_transition hon (transition_of_early cgb sh hdue)

/-! ## The switch of the LCD -/

theorem videoStep_of_off (cgb : Bool) (sh : Shades) (n : Nat) (h : v.lcdOn = false) : v.step cgb sh n = (v, []) :=
  if_neg (by rw [h]; decide)

/-- With the LCD off the controller is inert (R641). -/
theorem mmuVideoStep_of_off {m : Mmu} (h : m.video.lcdOn = false) (cfg : Config) (n : Nat) : m.videoStep cfg n = m := by
  rw [Mmu.videoStep, videoStep_of_off _ _ _ h, List.append_nil]

/-- A write of LCDC, by what becomes of bit 7 (R650). -/
theorem writeLcdc_eq (v : Video) (b : Byte) : v.writeLcdc b =
    if v.lcdc.getLsbD 7 = b.getLsbD 7 then { v with lcdc := b }
    else if b.getLsbD 7 then Video.enterOam { v with lcdc := b, ly := 0, lineCycles := 0 }
    else { v with lcdc := b, ly := 0, lineCycles := 0, mode := .hblank } := by
  simp only [Video.writeLcdc, Video.lcdOn]
  cases v.lcdc.getLsbD 7 <;> cases b.getLsbD 7 <;> rfl

theorem writeLcdc_lcdc (v : Video) (b : Byte) : (v.writeLcdc b).lcdc = b := by
  rw [writeLcdc_eq]; split_ifs <;> rfl

/-- Settles O51: the inert step repeated, and the write of LCDC by what becomes of bit 7. -/
theorem lcdSwitch : Obligations.LcdSwitch := by
  unfold Obligations.LcdSwitch
  refine ⟨fun m cfg steps hoff => ?_, fun s v => ?_⟩
  · induction steps with
    | nil => rfl
    | cons n rest ih => rw [List.foldl_cons, mmuVideoStep_of_off hoff, ih]
  · have hstore : s.store 0xFF40 v = { s with mmu := { s.mmu with video := s.mmu.video.writeLcdc v } } := by
      simp [State.store_ioPage, Mmu.ioWrite, ioRegBoth]
    refine ⟨?_, ?_⟩
    · rw [hstore]
      simp [State.read_ioPage, Mmu.ioRead, ioRegBoth, writeLcdc_lcdc]
    · rw [hstore, writeLcdc_eq]

end Sys2Proof.Machine
end

section
/-! SUPPORT. How an instruction can end (60_exceptions.md R600, R602, R613): at a cost, or with one of the three fatal conditions a
running machine raises (O32); and what a step costs (O40). -/

namespace Sys2Proof.Machine

variable {s t u : State} {k : Nat}

/-! ## Ends -/

/-- A cycle count a step can return (R613). -/
@[reducible] def StepCycles (k : Nat) : Prop := 4 ≤ k ∧ k ≤ 24 ∧ k % 4 = 0

/-- From s an instruction ends in t at a cost, with no fatal condition of its own; or it asked for the H-blank-paced VRAM DMA
(R675). -/
def State.Ends (s t : State) : Prop :=
  (t.fault = s.fault ∧ StepCycles t.cost) ∨
    ∃ v : Byte, s.mmu.cgb = true ∧ v.getLsbD 7 = true ∧ t.fault = some (.f5HblankDma v)

/-- What wrote no fault record, and whose cost is said, has ended. -/
theorem State.Ends.of_tick (hfault : t.fault = s.fault) (hk : StepCycles k) : s.Ends (t.tick k) := .inl ⟨hfault, hk⟩

/-- An end is not changed by what wrote neither the fault record nor the mode before. -/
theorem State.Ends.after (h : t.Ends u) (hfault : t.fault = s.fault) (hcgb : t.mmu.cgb = s.mmu.cgb) : s.Ends u := by
  rcases h with ⟨hkept, hcost⟩ | ⟨v, hmode, hbit, hraised⟩
  · exact .inl ⟨hkept.trans hfault, hcost⟩
  · exact .inr ⟨v, hcgb ▸ hmode, hbit, hraised⟩

theorem State.store_cgb (s : State) (a : Word) (v : Byte) : (s.store a v).mmu.cgb = s.mmu.cgb :=
  (write_fixed s.mmu s.config a v).1.cgb

/-- A store that may be fatal, and what follows it. -/
theorem memWrite_ends {a : Word} {v : Byte} {next : State → State} (h : (s.store a v).Ends (next (s.store a v))) :
    s.Ends (s.memWrite a v next) := by
  unfold State.memWrite
  split
  · next hfatal =>
    simp only [Mmu.hblankDmaRequest, Bool.and_eq_true] at hfatal
    exact .inr ⟨v, hfatal.1.1, hfatal.2, rfl⟩
  · exact h.after rfl (s.store_cgb a v)

theorem memWrite_tick_ends (a : Word) (v : Byte) (hk : StepCycles k) : s.Ends (s.memWrite a v (·.tick k)) :=
  memWrite_ends (.of_tick rfl hk)

theorem push16_ends (v : Word) {next : State → State} (h : ∀ t : State, t.Ends (next t)) : s.Ends (s.push16 v next) :=
  (memWrite_ends (s := s.setSP (s.sp - 1)) ((memWrite_ends (h _)).after rfl rfl)).after rfl rfl

theorem writePlace_ends (p : Place8) (v : Byte) (hk : StepCycles k) : s.Ends (s.writePlace p v (·.tick k)) := by
  cases p with
  | reg r => exact .of_tick rfl hk
  | memHL => exact memWrite_tick_ends _ v hk

/-! ## The shared meanings that store or choose -/

theorem placeCost_stepCycles (p : Place8) {r m : Nat} (hr : StepCycles r) (hm : StepCycles m) : StepCycles (p.cost r m) := by
  cases p with
  | reg _ => exact hr
  | memHL => exact hm

theorem stSP_ends (nn : Word) (s : State) : s.Ends (stSP nn s) :=
  memWrite_ends (memWrite_tick_ends _ _ (by decide))

theorem stAThenStep_ends (d : Word) (s : State) : s.Ends (stAThenStep d s) := memWrite_ends (.of_tick rfl (by decide))

theorem push_ends (p : StackPair) (s : State) : s.Ends (push p s) := push16_ends _ fun _ => .of_tick rfl (by decide)

theorem callTo_ends (target : Word) (hk : StepCycles k) : s.Ends (callTo target k s) := push16_ends _ fun _ => .of_tick rfl hk

theorem callIf_ends (cc : Cond) (nn : Word) (s : State) : s.Ends (callIf cc nn s) := by
  unfold callIf
  cases s.cond cc
  · exact .of_tick rfl (by decide)
  · exact callTo_ends nn (by decide)

theorem jpIf_ends (cc : Cond) (nn : Word) (s : State) : s.Ends (jpIf cc nn s) := by
  unfold jpIf; cases s.cond cc <;> exact .of_tick rfl (by decide)

theorem jrIf_ends (cc : Cond) (e : Byte) (s : State) : s.Ends (jrIf cc e s) := by
  unfold jrIf; cases s.cond cc <;> exact .of_tick rfl (by decide)

theorem retIf_ends (cc : Cond) (s : State) : s.Ends (retIf cc s) := by
  unfold retIf; cases s.cond cc <;> exact .of_tick rfl (by decide)

theorem shiftPlace_ends (f : Byte → Byte × Bool) (p : Place8) (s : State) : s.Ends (shiftPlace f p s) :=
  (writePlace_ends p _ (placeCost_stepCycles p (by decide) (by decide))).after rfl rfl

theorem bitPlace_ends (b : Nat) (p : Place8) (s : State) : s.Ends (bitPlace b p s) :=
  .of_tick rfl (placeCost_stepCycles p (by decide) (by decide))

/-- RES and SET are one operation, the place written (R514, R515). -/
theorem withBit_ends (b : Nat) (one : Bool) (p : Place8) (s : State) :
    s.Ends (s.writePlace p (withBit (s.readPlace p) b one) (·.tick (p.cost 8 16))) :=
  writePlace_ends p _ (placeCost_stepCycles p (by decide) (by decide))

/-- The instruction a byte after 0xCB names, by the byte's fields (R311, R575). -/
theorem cbEffect_ends (op : Byte) (s : State) : s.Ends (cbEffect op s) := by
  unfold cbEffect
  simp only [cbShift_eq]
  split_ifs
  · exact shiftPlace_ends _ _ s
  · exact bitPlace_ends _ _ s
  · exact withBit_ends _ false _ s
  · exact withBit_ends _ true _ s

/-! ## Every instruction -/

/-- Every instruction ends but the illegal values and STOP, which raise fatal conditions of their own: those that store or choose
by their shared meaning; those that write registers and no more have their cost in their meaning. -/
theorem exec_ends (i : Instr) (s : State) (hstop : i ≠ .stop) (hlegal : i ∉ rowsIllegal.map Prod.snd) :
    ∃ t, exec i s = .next t ∧ s.Ends t := by
  cases i with
  | stop => exact absurd rfl hstop
  | illegal_D3 | illegal_DB | illegal_DD | illegal_E3 | illegal_E4 | illegal_EB | illegal_EC | illegal_ED | illegal_F4
  | illegal_FC | illegal_FD => exact absurd (by simp [rowsIllegal]) hlegal
  | cb_prefix => exact ⟨_, rfl, (cbEffect_ends _ s.fetch8.2).after rfl rfl⟩
  | jp_NZ_n16 | jp_Z_n16 | jp_NC_n16 | jp_C_n16 => exact ⟨_, rfl, jpIf_ends _ _ s⟩
  | jr_NZ_e8 | jr_Z_e8 | jr_NC_e8 | jr_C_e8 => exact ⟨_, rfl, jrIf_ends _ _ s⟩
  | ret_NZ | ret_Z | ret_NC | ret_C => exact ⟨_, rfl, retIf_ends _ s⟩
  | call_NZ_n16 | call_Z_n16 | call_NC_n16 | call_C_n16 => exact ⟨_, rfl, callIf_ends _ _ s⟩
  | call_n16 | rst_00 | rst_08 | rst_10 | rst_18 | rst_20 | rst_28 | rst_30 | rst_38 =>
    exact ⟨_, rfl, callTo_ends _ (by decide)⟩
  | push_BC | push_DE | push_HL | push_AF => exact ⟨_, rfl, push_ends _ s⟩
  | ld_mN16_SP nn => exact ⟨_, rfl, stSP_ends nn s⟩
  | ld_mHLinc_A | ld_mHLdec_A => exact ⟨_, rfl, stAThenStep_ends _ s⟩
  | ld_mHL_B | ld_mHL_C | ld_mHL_D | ld_mHL_E | ld_mHL_H | ld_mHL_L | ld_mHL_A | ld_mHL_n8 | ld_mBC_A | ld_mDE_A | ld_mN16_A
  | ldh_mN8_A | ld_mC_A => exact ⟨_, rfl, memWrite_tick_ends _ _ (by decide)⟩
  | inc_mHL | dec_mHL => exact ⟨_, rfl, (memWrite_tick_ends (s := s.putF _) _ _ (by decide)).after rfl rfl⟩
  | rlc_mHL | rrc_mHL | rl_mHL | rr_mHL | sla_mHL | sra_mHL | swap_mHL | srl_mHL => exact ⟨_, rfl, shiftPlace_ends _ _ s⟩
  | res_0_mHL | res_1_mHL | res_2_mHL | res_3_mHL | res_4_mHL | res_5_mHL | res_6_mHL | res_7_mHL =>
    exact ⟨_, rfl, withBit_ends _ false _ s⟩
  | set_0_mHL | set_1_mHL | set_2_mHL | set_3_mHL | set_4_mHL | set_5_mHL | set_6_mHL | set_7_mHL =>
    exact ⟨_, rfl, withBit_ends _ true _ s⟩
  | add_A_n8 | adc_A_n8 | sub_A_n8 | sbc_A_n8 | and_A_n8 | xor_A_n8 | or_A_n8 | cp_A_n8 =>
    exact ⟨_, rfl, .of_tick rfl (show StepCycles 8 by decide)⟩
  | _ => exact ⟨_, rfl, .of_tick rfl (by decide)⟩

theorem mem_illegals {i : Instr} : i ∈ rowsIllegal.map Prod.snd ↔ ∃ op, (op, i) ∈ rowsIllegal := by simp

/-- STOP raises F6 in DMG mode and has its cost in CGB mode (R572). -/
theorem stopCpu_ends (s : State) : s.Ends (stopCpu s) ∨
    s.mmu.cgb = false ∧ (stopCpu s).fault = some (.f6StopOnDmg (s.pc - 1)) := by
  cases hcgb : s.mmu.cgb with
  | false => exact .inr ⟨rfl, by rw [stopCpu_of_dmg hcgb]⟩
  | true =>
    cases hkey : s.mmu.key1Armed with
    | false => rw [stopCpu_of_not_armed hcgb hkey]; exact .inl (.of_tick (k := 4) rfl (by decide))
    | true => rw [stopCpu_of_armed hcgb hkey]; exact .inl (.of_tick (k := 4) rfl (by decide))

/-- Every instruction, from every state: an end, F1 by an illegal value, or F6 by STOP in DMG mode. -/
theorem exec_cases (i : Instr) (s : State) : ∃ t, exec i s = .next t ∧ (s.Ends t ∨
    (∃ op, (op, i) ∈ rowsIllegal ∧ t.fault = some (.f1UndefinedOpcode op (s.pc - 1))) ∨
    (i = .stop ∧ s.mmu.cgb = false ∧ t.fault = some (.f6StopOnDmg (s.pc - 1)))) := by
  by_cases hill : i ∈ rowsIllegal.map Prod.snd
  · obtain ⟨op, hrow⟩ := mem_illegals.1 hill
    exact ⟨_, exec_illegal hrow s, .inr (.inl ⟨op, hrow, rfl⟩)⟩
  · by_cases hstop : i = .stop
    · subst hstop
      exact ⟨_, rfl, (stopCpu_ends s).imp_right fun hf6 => .inr ⟨rfl, hf6⟩⟩
    · obtain ⟨t, hexec, hends⟩ := exec_ends i s hstop hill
      exact ⟨t, hexec, .inl hends⟩

/-- Settles O32: an end keeps the fault record or is F5, and the two other conditions are the illegal values' and STOP's. -/
theorem everyInstructionAnswers : Obligations.EveryInstructionAnswers := by
  unfold Obligations.EveryInstructionAnswers
  intro i s
  obtain ⟨t, hexec, hcases⟩ := exec_cases i s
  refine ⟨t, hexec, fun hnone => ?_⟩
  rcases hcases with (⟨hkept, -⟩ | hf5) | hf1 | hf6
  · exact .inl (hkept.trans hnone)
  · exact .inr (.inr (.inr hf5))
  · exact .inr (.inl hf1)
  · exact .inr (.inr (.inl hf6))

/-! ## The cost of a step -/

/-- Without a fatal condition an end has a cost. -/
theorem State.Ends.cost (h : s.Ends t) (hnone : t.fault = none) : StepCycles t.cost := by
  rcases h with ⟨-, hcost⟩ | ⟨v, -, -, hf5⟩
  · exact hcost
  · rw [hnone] at hf5; cases hf5

theorem exec_cost {i : Instr} (h : exec i s = .next t) (hnone : t.fault = none) : StepCycles t.cost := by
  obtain ⟨u, hexec, hcases⟩ := exec_cases i s
  rw [hexec] at h
  cases h
  rcases hcases with hends | ⟨op, -, hf1⟩ | ⟨-, -, hf6⟩
  · exact hends.cost hnone
  · rw [hnone] at hf1; cases hf1
  · rw [hnone] at hf6; cases hf6

/-- The dispatch of an interrupt costs 20 or 24, or is F5 (R605). -/
theorem takeInterrupt_ends (s : State) (i : Source) : s.Ends (s.takeInterrupt i) := by
  have hcost : StepCycles (bif s.halted then 24 else 20) := by cases s.halted <;> decide
  exact State.Ends.after (push16_ends _ fun _ => .of_tick rfl hcost) rfl rfl

theorem runOne_cost (h : s.runOne = .next t) (hnone : t.fault = none) : StepCycles t.cost := by
  unfold State.runOne at h
  split_ifs at h with hhalted hfault
  · cases h; exact (by decide : StepCycles 4)
  · cases h; rw [hnone] at hfault; cases hfault
  · exact exec_cost h hnone

/-- What a unit of `step_cycles` costs when it ends without a fatal condition (R613). -/
theorem stepCycles_cost (h : s.stepCycles = .next t) (hnone : t.fault = none) : StepCycles t.cost := by
  unfold State.stepCycles at h
  split at h
  · split_ifs at h
    · cases h; exact (takeInterrupt_ends s _).cost hnone
    · cases h; exact (by decide : StepCycles 4)
    · exact runOne_cost h hnone
  · exact runOne_cost h hnone

theorem afterCycles_cost (s : State) (ds : Bool) : (s.afterCycles ds).cost = s.cost := by
  unfold State.afterCycles; split <;> rfl

/-- Settles O40: the peripherals leave the cost that the unit of `step_cycles` returned. -/
theorem stepCost : Obligations.StepCost := by
  unfold Obligations.StepCost
  intro s t h hnone
  obtain ⟨-, u, hunit, -, rfl⟩ := step_cases h
  rw [afterCycles_fault] at hnone
  rw [afterCycles_cost]
  exact stepCycles_cost hunit hnone

end Sys2Proof.Machine
end

section
/-! SUPPORT. The step and the interrupt check (60_exceptions.md R604-R614): the decoded instruction inside a step (O36), the first
ready source and what becomes of it (O37). -/

namespace Sys2Proof.Machine

variable {s t : State}

/-! ## The step -/

theorem applyPendingEnable_eq (s : State) :
    s.applyPendingEnable = { s with ime := s.ime || s.imePending, imePending := false } := by
  cases hpending : s.imePending with
  | false =>
    rw [Bool.or_false, ← hpending]
    exact if_neg (by simp [hpending])
  | true =>
    rw [Bool.or_true]
    exact if_pos hpending

theorem atFetch_of_no_breakpoint (h : s.pc ∉ s.config.breakpoints) :
    s.atFetch = { s with ime := s.ime || s.imePending, imePending := false } := by
  unfold State.atFetch
  rw [applyPendingEnable_eq]
  exact debugHook_of_no_breakpoint h

theorem encode_decodeBytes_length (b b2 b3 : Byte) : (encode (decodeBytes b b2 b3)).length = instrLength b := by
  rw [encode_decodeBytes, List.length_take]
  have := instrLength_cases b
  simp only [List.length_cons, List.length_nil]
  omega

/-- The instruction the decoder reads from three bytes is the one the fetch takes from them. -/
theorem decodeBytes_of_decode {b b2 b3 : Byte} {i : Instr} {rest : List Byte} (h : decode [b, b2, b3] = .ok (i, rest)) :
    decodeBytes b b2 b3 = i := by
  have hlen := instrLength_cases b
  rw [decode_cons (by simp only [List.length_cons, List.length_nil]; omega)] at h
  cases h
  rfl

/-- Settles O36: no dispatch, no HALT and no breakpoint leave the fetch, and after it the peripherals. -/
theorem stepRunsDecoded : Obligations.StepRunsDecoded := by
  unfold Obligations.StepRunsDecoded
  intro s s0 i rest hs0 hfault hrunning hnone hbreak hdecode
  have hinstr := decodeBytes_of_decode hdecode
  have hfetch := atFetch_of_no_breakpoint hbreak
  obtain ⟨t, hexec⟩ := exec_answers_next i { s0 with
    ime := s0.ime || s0.imePending, imePending := false, pc := s0.pc + BitVec.ofNat 16 (encode i).length }
  refine ⟨t, hexec, ?_⟩
  have hunit : s0.stepCycles = .next t := by
    have hfault0 : s0.atFetch.fault = none := by
      rw [hfetch]
      exact (congrArg State.fault hs0).trans ((takeKeyEvents_fault s).trans hfault)
    rw [stepCycles_of_no_dispatch hrunning hnone, runOne_of_running hrunning hfault0, hfetch, ← hexec, ← hinstr,
      encode_decodeBytes_length]
    rfl
  unfold step State.systemStep State.afterCycles
  rw [hfault, ← hs0, hunit]
  simp only [Mmu.peripherals, cond_eq_ite]

/-! ## The first ready source -/

/-- The first ready source in priority order is the one `readySource` finds (R605, R606). -/
theorem readySource_eq_some {m : Mmu} {i : Source} (h : m.isReady i = true)
    (hfirst : ∀ j : Source, j.index < i.index → m.isReady j = false) : m.readySource = some i := by
  have hbefore (l : List Source) (hl : ∀ j ∈ l, j.index < i.index) : ∀ j ∈ l, (!m.isReady j) = true :=
    fun j hj => by rw [hfirst j (hl j hj)]; rfl
  refine List.find?_eq_some_iff_append.2 ⟨h, ?_⟩
  cases i with
  | vblank => exact ⟨[], _, rfl, hbefore [] (by decide)⟩
  | lcdStat => exact ⟨[.vblank], _, rfl, hbefore [.vblank] (by decide)⟩
  | timer => exact ⟨[.vblank, .lcdStat], _, rfl, hbefore [.vblank, .lcdStat] (by decide)⟩
  | serial => exact ⟨[.vblank, .lcdStat, .timer], _, rfl, hbefore [.vblank, .lcdStat, .timer] (by decide)⟩
  | joypad => exact ⟨[.vblank, .lcdStat, .timer, .serial], _, rfl, hbefore [.vblank, .lcdStat, .timer, .serial] (by decide)⟩

theorem readySource_eq_none {m : Mmu} (h : ∀ i, m.isReady i = false) : m.readySource = none := by
  simp [Mmu.readySource, h]

theorem readySource_isSome {m : Mmu} {x : Source} (h : m.isReady x = true) : ∃ i, m.readySource = some i := by
  refine Option.isSome_iff_exists.1 (List.find?_isSome.2 ⟨x, ?_, h⟩)
  cases x <;> simp

theorem Source.index_lt (i : Source) : i.index < 5 := by cases i <;> decide

/-- A source is ready by its bits of IE and IF as they are read (R113, R136). -/
theorem isReady_eq (s : State) (i : Source) :
    s.mmu.isReady i = ((s.read 0xFFFF).getLsbD i.index && (s.read 0xFF0F).getLsbD i.index) := by
  have hif : s.read 0xFF0F = 0xE0#8 ||| s.mmu.intFlag.setWidth 8 := by simp [State.read_ioPage, Mmu.ioRead, ioRegBoth]
  have hie : s.read 0xFFFF = s.mmu.intEnable := s.read_ie
  rw [hie, hif, Mmu.isReady]
  cases i <;> simp [Source.index]

/-! ## What becomes of it -/

theorem stepCycles_of_ready {i : Source} (h : s.mmu.readySource = some i) : s.stepCycles =
    if s.ime then .next (s.takeInterrupt i)
    else if s.halted then .next (State.tick { s with halted := false } 4) else s.runOne := by
  unfold State.stepCycles
  rw [h]

theorem stepCycles_of_not_ready (h : s.mmu.readySource = none) : s.stepCycles = s.runOne := by
  unfold State.stepCycles
  rw [h]

/-- The dispatch of a source whose push is not fatal: the push's stores, IF[i] cleared, and the CPU's fields (R605). -/
theorem takeInterrupt_of_not_fatal (h : s.storesFatal (pushStores s.sp s.pc) = false) (i : Source) : s.takeInterrupt i =
    { s with ime := false, halted := false, pc := i.vector, sp := s.sp - 2, cost := if s.halted then 24 else 20,
             mmu := (State.storeList (pushStores s.sp s.pc) s).mmu.clearRequest i } := by
  rw [← cond_eq_ite]
  exact State.push16_of_not_fatal (s := { s with halted := false, ime := false }) h _

theorem clearRequest_getLsbD (m : Mmu) (i : Source) {k : Nat} (hk : k < 5) :
    (m.clearRequest i).intFlag.getLsbD k = (m.intFlag.getLsbD k && decide (k ≠ i.index)) := by
  have hmask : (1#5 <<< i.index).getLsbD k = decide (k = i.index) := by
    rw [← BitVec.twoPow, BitVec.getLsbD_twoPow]
    simp [i.index_lt, eq_comm]
  rw [Mmu.clearRequest, BitVec.getLsbD_and, BitVec.getLsbD_not, hmask]
  simp [hk]

/-- Of the I/O page, only IF shows the requests (R113). -/
theorem read_clearRequest (m : Mmu) (cfg : Config) (i : Source) {x : Word} (hx : x ≠ 0xFF0F) :
    (m.clearRequest i).read cfg x = m.read cfg x := by
  refine read_of_same rfl rfl rfl rfl rfl rfl (fun _ _ => ⟨rfl, rfl⟩) (fun _ _ => ⟨rfl, rfl⟩) fun k hio => ?_
  obtain ⟨hoffset, -⟩ := locate_io hio
  unfold Mmu.ioRead Mmu.clearRequest
  cases hreg : ioReg m.cgb k with
  | ifReg =>
    have hk := ioReg_of_eq hreg (by decide)
    exact absurd (BitVec.eq_of_toNat_eq (by rw [hoffset, hk]; rfl)) hx
  | _ => rfl

/-- Settles O37: the first ready source is dispatched, wakes the CPU, or waits for IME. -/
theorem interruptCheck : Obligations.InterruptCheck := by
  unfold Obligations.InterruptCheck
  refine fun s => ⟨fun i => ⟨isReady_eq s i, i.index_lt⟩, fun i hready hfirst => ?_, fun hnone => ?_, fun hhalted => ?_⟩
  · have hunit := stepCycles_of_ready (readySource_eq_some hready hfirst)
    refine ⟨fun hime hfatal => ⟨s.takeInterrupt i, by rw [hunit, if_pos hime], ?_⟩, fun hime hhalted => ?_, fun hime hrunning => ?_⟩
    · rw [takeInterrupt_of_not_fatal hfatal]
      refine ⟨rfl, rfl, rfl, fun k hk => clearRequest_getLsbD _ i hk, rfl, fun x hx huntouched => ?_⟩
      exact (read_clearRequest _ s.config i hx).trans (State.storeList_read_frame _ huntouched)
    · rw [hunit, hime, hhalted]; rfl
    · rw [hunit, hime, hrunning]; rfl
  · exact stepCycles_of_not_ready (readySource_eq_none hnone)
  · exact if_pos hhalted

end Sys2Proof.Machine
end

section
/-! SUPPORT. The store that asks for the H-blank-paced VRAM DMA (60_exceptions.md R675): what a storing form has done when it meets
it (O33). -/

namespace Sys2Proof.Machine

variable {s : State}

/-! ## The fatal store -/

theorem hblankDmaRequest_eq (m : Mmu) (a : Word) (v : Byte) :
    m.hblankDmaRequest a v = (m.cgb && decide (a = 0xFF55) && decide (128 ≤ v.toNat)) := by
  rw [Mmu.hblankDmaRequest, bit7_eq_decide]
  rfl

theorem State.storesFatal_one {a : Word} {v : Byte} (h : s.storesFatal [(a, v)] = true) :
    s.mmu.hblankDmaRequest a v = true := by
  rwa [State.storesFatal, State.storesFatal, Bool.or_false] at h

/-- The fatal store is not made, and nothing follows it (R16). -/
theorem State.memWrite_of_fatal {a : Word} {v : Byte} (h : s.mmu.hblankDmaRequest a v = true) (k : State → State) :
    s.memWrite a v k = { s with fault := some (.f5HblankDma v) } :=
  if_pos h

/-- A push whose high byte's store is fatal has moved SP once. -/
theorem State.push16_of_fatal_high {v : Word} (h : s.mmu.hblankDmaRequest (s.sp - 1) (hi8 v) = true) (k : State → State) :
    s.push16 v k = { s with sp := s.sp - 1, fault := some (.f5HblankDma (hi8 v)) } :=
  State.memWrite_of_fatal (s := s.setSP (s.sp - 1)) h _

/-- A push whose low byte's store is fatal has stored the high byte and moved SP twice. -/
theorem State.push16_of_fatal_low {v : Word} (hhigh : s.mmu.hblankDmaRequest (s.sp - 1) (hi8 v) = false)
    (hlow : (s.store (s.sp - 1) (hi8 v)).mmu.hblankDmaRequest (s.sp - 2) (lo8 v) = true) (k : State → State) :
    s.push16 v k = { s.store (s.sp - 1) (hi8 v) with sp := s.sp - 2, fault := some (.f5HblankDma (lo8 v)) } := by
  have hsp : s.sp - 1 - 1 = s.sp - 2 := by bv_omega
  refine (State.memWrite_of_not_fatal (s := s.setSP (s.sp - 1)) hhigh _).trans ?_
  simp only [State.store_sp, State.setSP_sp, hsp]
  exact State.memWrite_of_fatal (s := ((s.setSP (s.sp - 1)).store _ _).setSP (s.sp - 2)) hlow k

/-- The two ways a push can be fatal, as FatalStores tells them of an outcome r. -/
def State.PushFaults (s : State) (w : Word) (r : Result) : Prop :=
  (s.mmu.hblankDmaRequest (s.sp - 1) (hi8 w) = true →
    r = .next { s with sp := s.sp - 1, fault := some (.f5HblankDma (hi8 w)) }) ∧
  (s.mmu.hblankDmaRequest (s.sp - 1) (hi8 w) = false →
    (s.store (s.sp - 1) (hi8 w)).mmu.hblankDmaRequest (s.sp - 2) (lo8 w) = true →
    r = .next { s.store (s.sp - 1) (hi8 w) with sp := s.sp - 2, fault := some (.f5HblankDma (lo8 w)) })

theorem push16_faults (s : State) (w : Word) (k : State → State) : s.PushFaults w (.next (s.push16 w k)) :=
  ⟨fun h => congrArg _ (State.push16_of_fatal_high h k), fun hhigh hlow => congrArg _ (State.push16_of_fatal_low hhigh hlow k)⟩

/-! ## The forms -/

/-- A read-modify-write form on (HL) has written F at most when its write-back is fatal (assumption 7). -/
theorem writePlace_of_fatal {f v : Byte} {k : State → State} (h : s.storesFatal [(s.hl, v)] = true) :
    ∃ t, (s.putF f).writePlace .memHL v k = t ∧ t = { s with regs := t.regs, fault := some (.f5HblankDma v) } ∧
      s.keepsRegs t [] :=
  ⟨_, State.memWrite_of_fatal (s := s.putF f) (State.storesFatal_one h) k, rfl, s.putF_keepsRegs f []⟩

/-- Every read-modify-write form on (HL) writes F and then the byte v, by its row. -/
theorem modify_of_row {i : Instr} {v : Byte}
    (h : (∃ op, (op, i, .memHL) ∈ rowsInc8 ∧ v = s.read s.hl + 1) ∨ (∃ op, (op, i, .memHL) ∈ rowsDec8 ∧ v = s.read s.hl - 1) ∨
      (∃ op y, (op, i, y, .memHL) ∈ rowsShift ∧ v = BitVec.ofNat 8 (shiftValue y (s.read s.hl).toNat s.flagC).1) ∨
      (∃ op b, (op, i, b, .memHL) ∈ rowsRes ∧ v = s.read s.hl &&& ~~~(1#8 <<< b)) ∨
      (∃ op b, (op, i, b, .memHL) ∈ rowsSet ∧ v = s.read s.hl ||| (1#8 <<< b))) :
    ∃ f k, exec i s = .next ((s.putF f).writePlace .memHL v k) := by
  rcases h with ⟨op, hrow, rfl⟩ | ⟨op, hrow, rfl⟩ | ⟨op, y, hrow, rfl⟩ | ⟨op, b, hrow, rfl⟩ | ⟨op, b, hrow, rfl⟩
  · exact ⟨_, _, (stepPlace_of_row (.inl ⟨hrow, rfl⟩)).2 s⟩
  · have hsub : s.read s.hl - 1 = s.read s.hl + 0xFF := by bv_omega
    rw [hsub]
    exact ⟨_, _, (stepPlace_of_row (.inr ⟨hrow, rfl⟩)).2 s⟩
  · rw [← shiftByte_nats, shiftNats, BitVec.ofNat_toNat, BitVec.setWidth_eq]
    exact ⟨packF ((shiftByte y (s.read s.hl) s.flagC).1 == 0) false false (shiftByte y (s.read s.hl) s.flagC).2, (·.tick 16),
      (shift_of_row hrow).2 s⟩
  · exact ⟨s.regs.f, _, (res_of_row hrow).2 s⟩
  · exact ⟨s.regs.f, _, (set_of_row hrow).2 s⟩

/-- Settles O33: each form's first fatal store, with what the form has done before it. -/
theorem fatalStores : Obligations.FatalStores := by
  unfold Obligations.FatalStores
  refine ⟨hblankDmaRequest_eq, fun s => ⟨fun b2 b3 op i addr value cycles hrow hfatal => ?_, fun i hi hfatal => ?_,
    fun i v hform hfatal => ?_, fun nn => ⟨fun hlow => ?_, fun hlow hhigh => ?_⟩, fun i w hform => ?_, fun hime hready => ?_⟩⟩
  · rw [(memWrite_of_row hrow).2, State.memWrite_of_fatal (State.storesFatal_one hfatal)]
  · have hstep (d : Word) : stAThenStep d s = { s with fault := some (.f5HblankDma s.regs.a) } :=
      State.memWrite_of_fatal (State.storesFatal_one hfatal) _
    rcases hi with rfl | rfl
    · exact congrArg _ (hstep 1)
    · exact congrArg _ (hstep (-1))
  · obtain ⟨f, k, hexec⟩ := modify_of_row hform
    obtain ⟨t, hwrite, hframe⟩ := writePlace_of_fatal (f := f) (k := k) hfatal
    exact ⟨t, hwrite ▸ hexec, hframe⟩
  · exact congrArg _ (State.memWrite_of_fatal hlow _)
  · rw [← hi8_eq] at hhigh ⊢
    exact congrArg _ ((State.memWrite_of_not_fatal hlow _).trans (State.memWrite_of_fatal (s := s.store nn _) hhigh _))
  · simp only [← hi8_eq]
    simp only [← lo8_eq]
    suffices hpush : s.PushFaults w (exec i s) from hpush
    rcases hform with ⟨op, p, hrow, rfl⟩ | ⟨rfl, ⟨nn, rfl | ⟨op, cc, hrow, hcond⟩⟩ | ⟨op, target, hrow⟩⟩
    · rw [(push_of_row hrow).2]
      exact push16_faults s _ _
    · exact push16_faults s _ _
    · rw [(callIf_of_row hrow).2, callIf_of_cond hcond]
      exact push16_faults s _ _
    · rw [(rst_of_row hrow).2]
      exact push16_faults s _ _
  · simp only [← hi8_eq]
    simp only [← lo8_eq]
    obtain ⟨x, hx⟩ := hready
    obtain ⟨i, hi⟩ := readySource_isSome hx
    rw [stepCycles_of_ready hi, if_pos hime]
    exact push16_faults { s with halted := false, ime := false } s.pc _

end Sys2Proof.Machine
end

section
/-! SUPPORT. The devices of the MMU (60_exceptions.md R604, R620-R622, R670-R676, R692): the requests and the keys (O49), the timer's
loops (O50) and the two DMA engines (O55, O56). -/

namespace Sys2Proof.Machine

/-! ## Requests and keys -/

/-- The devices' requests stand in the bits of their sources (R149, R603). -/
theorem pendingBits_getLsbD (m : Mmu) {k : Nat} (hk : k < 5) : m.pendingBits.getLsbD k =
    ((decide (k = 0) && m.video.pendingVblank) || (decide (k = 1) && m.video.pendingStat) ||
      (decide (k = 2) && m.timer.pending) || (decide (k = 4) && m.joypad.pending)) := by
  have fields : ∀ joypad timer stat vblank : Bool, ∀ k < 5,
      (BitVec.ofBool joypad ++ 0#1 ++ BitVec.ofBool timer ++ BitVec.ofBool stat ++ BitVec.ofBool vblank).getLsbD k =
        ((decide (k = 0) && vblank) || (decide (k = 1) && stat) || (decide (k = 2) && timer) || (decide (k = 4) && joypad)) := by
    decide
  exact fields _ _ _ _ k hk

theorem set_keeps (j : Joypad) (x : Button) (v : Bool) : (j.set x v).sel = j.sel ∧ (j.set x v).pending = j.pending := by
  cases x <;> exact ⟨rfl, rfl⟩

/-- A latch bit reads what was written to it, and every other one as before. -/
theorem bit_set (j : Joypad) (x y : Button) (v : Bool) : (j.set x v).bit y = if y = x then v else j.bit y := by
  cases x <;> cases y <;> rfl

theorem bit_pending (j : Joypad) (y : Button) (b : Bool) : Joypad.bit { j with pending := b } y = j.bit y := by
  cases y <;> rfl

/-- Settles O49: `collectRequests` bit by bit and the order of `mmu_step`; a key event sets one bit of the latch. -/
theorem requestsAndKeys : Obligations.RequestsAndKeys := by
  unfold Obligations.RequestsAndKeys
  refine ⟨fun m cfg c => ⟨m.intFlag ||| m.pendingBits, rfl, fun k hk => ?_⟩, fun j x => ⟨rfl, (set_keeps j x false).2, ?_⟩⟩
  · rw [BitVec.getLsbD_or, pendingBits_getLsbD m hk, ← Bool.or_assoc, ← Bool.or_assoc, ← Bool.or_assoc]
  · intro pressed
    refine ⟨_, rfl, ?_⟩
    cases pressed with
    | false => exact ⟨(set_keeps j x false).1, fun y => bit_set j x y false⟩
    | true => exact ⟨(set_keeps j x true).1, fun y => (bit_pending _ y true).trans (bit_set j x y true)⟩

/-! ## The timer -/

/-- One turn of the divider's loop (R620). -/
theorem stepDiv_turn (t : Timer) {c : Nat} (h : 256 ≤ t.divAcc + c) :
    t.stepDiv c = Timer.stepDiv { t with divAcc := t.divAcc + c - 256, div := t.div + 1 } 0 := by
  obtain ⟨r, hr⟩ : ∃ r, t.divAcc + c = r + 256 := ⟨_, (Nat.sub_add_cancel h).symm⟩
  have hdiv : (r + 256) / 256 = r / 256 + 1 := Nat.add_div_right r (by decide)
  have hcount : t.div + BitVec.ofNat 8 (r / 256 + 1) = t.div + 1 + BitVec.ofNat 8 (r / 256) := by
    rw [BitVec.ofNat_add]; bv_omega
  simp only [Timer.stepDiv, hr, Nat.add_sub_cancel, Nat.add_zero, Nat.add_mod_right, hdiv, hcount]

theorem timerPeriod_eq : ∀ tac : BitVec 3, timerPeriod tac = [1024, 16, 64, 256].getD (tac.toNat % 4) 0 := by decide

/-- A tick does not look at the accumulator (R622). -/
theorem tick_timaAcc (t : Timer) (acc : Nat) : Timer.tick { t with timaAcc := acc } = { t.tick with timaAcc := acc } := by
  unfold Timer.tick; split <;> rfl

theorem tick_tac (t : Timer) : t.tick.tac = t.tac := by
  unfold Timer.tick; split <;> rfl

theorem stepTima_of_on {t : Timer} (h : t.tac.getLsbD 2 = true) (c : Nat) : t.stepTima c =
    Timer.ticks ((t.timaAcc + c) / timerPeriod t.tac) { t with timaAcc := (t.timaAcc + c) % timerPeriod t.tac } :=
  if_pos h

/-- One turn of the counter's loop: a period is taken off and the counter ticks (R621). -/
theorem stepTima_turn {t : Timer} {c : Nat} (hon : t.tac.getLsbD 2 = true) (h : timerPeriod t.tac ≤ t.timaAcc + c) :
    t.stepTima c = Timer.stepTima { t.tick with timaAcc := t.timaAcc + c - timerPeriod t.tac } 0 := by
  obtain ⟨hpos, -⟩ := timerPeriod_pos t.tac
  obtain ⟨r, hr⟩ : ∃ r, t.timaAcc + c = r + timerPeriod t.tac := ⟨_, (Nat.sub_add_cancel h).symm⟩
  rw [stepTima_of_on hon, stepTima_of_on (by simp only [tick_tac]; exact hon)]
  simp only [hr, Nat.add_sub_cancel, Nat.add_zero, Nat.add_div_right r hpos, Nat.add_mod_right, Timer.ticks, tick_timaAcc, tick_tac]

/-- Settles O50: the two loops unrolled one turn, and what ends them. -/
theorem timerLoop : Obligations.TimerLoop := by
  unfold Obligations.TimerLoop
  refine fun t c => ⟨rfl, fun h => ?_, stepDiv_turn t, fun hoff => if_neg (by rw [hoff]; decide), fun hon => ?_⟩
  · simp [Timer.stepDiv, Nat.mod_eq_of_lt h, Nat.div_eq_of_lt h]
  · simp only [← timerPeriod_eq]
    refine ⟨fun h => ?_, fun h => ?_⟩
    · rw [stepTima_of_on hon, Nat.div_eq_of_lt h, Nat.mod_eq_of_lt h]
      rfl
    · rw [stepTima_turn hon h, Timer.tick]
      split <;> rfl

/-! ## OAM DMA -/

/-- Page and cursor side by side are their sum (R671). -/
theorem oamDmaSource_eq (d : OamDma) : d.source = BitVec.ofNat 16 (256 * d.srcPage.toNat + d.cursor) := by
  have hpage : ∀ page : Byte, word16 page 0 = BitVec.ofNat 16 (256 * page.toNat) := by decide
  rw [OamDma.source, hpage, BitVec.ofNat_add]

/-- Fuel beyond the bytes that are left changes nothing. -/
theorem oamDmaLoop_fuel (cfg : Config) (n : Nat) : ∀ (n' : Nat) (m : Mmu), 160 - m.oamDma.cursor ≤ n →
    160 - m.oamDma.cursor ≤ n' → Mmu.oamDmaLoop cfg n m = Mmu.oamDmaLoop cfg n' m := by
  induction n with
  | zero =>
    intro n' m h _
    cases n' with
    | zero => rfl
    | succ n' => exact (if_neg (by omega)).symm
  | succ n ih =>
    intro n' m h h'
    by_cases hturn : 4 ≤ m.oamDma.acc ∧ m.oamDma.cursor < 160
    · obtain ⟨k, rfl⟩ : ∃ k, n' = k + 1 := ⟨n' - 1, by omega⟩
      rw [Mmu.oamDmaLoop, Mmu.oamDmaLoop, if_pos hturn, if_pos hturn]
      have hcursor : (m.oamDmaByte cfg).oamDma.cursor = m.oamDma.cursor + 1 := rfl
      exact ih k _ (by omega) (by omega)
    · cases n' with
      | zero => exact if_neg hturn
      | succ n' => rw [Mmu.oamDmaLoop, Mmu.oamDmaLoop, if_neg hturn, if_neg hturn]

/-- c more cycles in hand (R671). -/
def Mmu.gainOamDma (m : Mmu) (c : Nat) : Mmu := { m with oamDma := { m.oamDma with acc := m.oamDma.acc + c } }

/-- The loop's end: at cursor 160 the transfer is over (R671). -/
def Mmu.endOamDma (m : Mmu) : Mmu :=
  if m.oamDma.cursor = 160 then { m with oamDma := { m.oamDma with active := false } } else m

theorem oamDmaStep_of_active {m : Mmu} (h : m.oamDma.active = true) (cfg : Config) (c : Nat) :
    m.oamDmaStep cfg c = (Mmu.oamDmaLoop cfg 160 (m.gainOamDma c)).endOamDma :=
  if_pos h

/-- With no byte due the loop does not turn. -/
theorem oamDmaStep_of_no_turn {m : Mmu} (h : m.oamDma.active = true) (cfg : Config) {c : Nat}
    (hno : ¬ (4 ≤ m.oamDma.acc + c ∧ m.oamDma.cursor < 160)) : m.oamDmaStep cfg c = (m.gainOamDma c).endOamDma := by
  rw [oamDmaStep_of_active h, Mmu.oamDmaLoop]
  exact congrArg Mmu.endOamDma (if_neg hno)

/-- A byte that is due is moved, and the step goes on from it with no further cycles. -/
theorem oamDmaStep_turn {m : Mmu} (h : m.oamDma.active = true) (cfg : Config) {c : Nat} (hcursor : m.oamDma.cursor < 160)
    (hacc : 4 ≤ m.oamDma.acc + c) : m.oamDmaStep cfg c = ((m.gainOamDma c).oamDmaByte cfg).oamDmaStep cfg 0 := by
  have hturn : Mmu.oamDmaLoop cfg 160 (m.gainOamDma c) = Mmu.oamDmaLoop cfg 159 ((m.gainOamDma c).oamDmaByte cfg) :=
    if_pos ⟨hacc, hcursor⟩
  have hleft : 160 - ((m.gainOamDma c).oamDmaByte cfg).oamDma.cursor ≤ 159 := Nat.sub_le_sub_left (Nat.le_add_left 1 _) 160
  rw [oamDmaStep_of_active h, hturn, oamDmaLoop_fuel cfg 159 160 _ hleft (by omega)]
  exact (oamDmaStep_of_active (m := (m.gainOamDma c).oamDmaByte cfg) h cfg 0).symm

/-- Settles O55: the store, and one turn of the loop or its end. -/
theorem oamDmaLoop : Obligations.OamDmaLoop := by
  unfold Obligations.OamDmaLoop
  refine ⟨fun s v => ?_, fun m cfg c => ⟨fun h => if_neg (by rw [h]; decide), fun h hcursor hacc => ?_, fun h hcursor hacc => ?_,
    fun h hcursor => ?_⟩⟩
  · simp [State.store_ioPage, Mmu.ioWrite, ioRegBoth, startOamDma]
  · rw [oamDmaStep_turn h cfg hcursor hacc, ← oamDmaSource_eq]
    rfl
  · rw [oamDmaStep_of_no_turn h cfg (by omega)]
    exact if_neg (Nat.ne_of_lt hcursor)
  · rw [oamDmaStep_of_no_turn h cfg (by omega)]
    exact if_pos hcursor

/-! ## VRAM DMA -/

theorem append_toNat (hi lo : Byte) : (hi ++ lo : BitVec 16).toNat = 256 * hi.toNat + lo.toNat := by
  rw [BitVec.toNat_append, ← Nat.shiftLeft_add_eq_or_of_lt lo.isLt, Nat.shiftLeft_eq]
  omega

/-- The source: the pair's low four bits cleared (R675). -/
theorem and_0xFFF0_eq (w : Word) : w &&& 0xFFF0#16 = BitVec.ofNat 16 (w.toNat / 16 * 16) := by
  have hshift : w &&& 0xFFF0#16 = (w >>> 4) <<< 4 := by
    ext i hi
    interval_cases i <;> simp
  apply BitVec.eq_of_toNat_eq
  rw [hshift]
  simp [Nat.shiftRight_eq_div_pow, Nat.shiftLeft_eq]

/-- The destination: 13 bits of the pair, the low four cleared (R675). -/
theorem and_0x1FF0_eq (w : Word) : (w &&& 0x1FF0#16).setWidth 13 = BitVec.ofNat 13 (w.toNat / 16 * 16 % 0x2000) := by
  have hmask : (w &&& 0x1FF0#16).setWidth 13 = (w &&& 0xFFF0#16).setWidth 13 := by
    ext i hi
    interval_cases i <;> simp
  apply BitVec.eq_of_toNat_eq
  rw [hmask, and_0xFFF0_eq]
  simp

/-- Writes in sequence leave every byte that none of them is at. -/
theorem read_writes_other {place : Nat → Nat} {byte : Nat → Byte} {k : Nat} (l : List Nat) :
    ∀ x : Memory, (∀ i ∈ l, k ≠ place i) → (l.foldl (fun x i => x.write (place i) (byte i)) x).read k = x.read k := by
  induction l with
  | nil => exact fun _ _ => rfl
  | cons j rest ih =>
    intro x h
    exact (ih _ fun i hi => h i (List.mem_cons_of_mem j hi)).trans
      (Memory.read_write_other _ _ (h j List.mem_cons_self))

/-- Of writes in sequence at different places each is read back. -/
theorem read_writes_same {place : Nat → Nat} {byte : Nat → Byte} {i : Nat} (l : List Nat) :
    ∀ x : Memory, l.Pairwise (fun i j => place i ≠ place j) → i ∈ l →
      (l.foldl (fun x i => x.write (place i) (byte i)) x).read (place i) = byte i := by
  induction l with
  | nil => exact fun _ _ hi => absurd hi List.not_mem_nil
  | cons j rest ih =>
    intro x hdiff hi
    obtain ⟨hfirst, hrest⟩ := List.pairwise_cons.1 hdiff
    rcases List.mem_cons.1 hi with rfl | hi
    · exact (read_writes_other rest _ hfirst).trans (Memory.read_write_same _ _ _)
    · exact ih _ hrest hi

/-- The MMU with VRAM's bytes replaced: what a VRAM DMA makes of it. -/
def Mmu.withVram (m : Mmu) (x : Memory) : Mmu := { m with video := { m.video with vram := x } }

/-- Byte i of a VRAM DMA of m, VRAM being x (R676). -/
def Mmu.hdmaWrite (m : Mmu) (cfg : Config) (x : Memory) (i : Nat) : Memory :=
  x.write (m.hdmaTarget i) ((m.withVram x).read cfg (m.hdma.src + BitVec.ofNat 16 i))

theorem hdmaLoop_withVram (m : Mmu) (cfg : Config) (n : Nat) : ∀ (i : Nat) (x : Memory),
    Mmu.hdmaLoop cfg n i (m.withVram x) = m.withVram ((List.range' i n).foldl (m.hdmaWrite cfg) x) := by
  induction n with
  | zero => exact fun _ _ => rfl
  | succ n ih => exact fun i x => ih (i + 1) (m.hdmaWrite cfg x i)

/-- An armed transfer copies its block and is over (R676). -/
theorem hdmaStep_of_armed {m : Mmu} (h : m.hdma.armed = true) (cfg : Config) : m.hdmaStep cfg =
    { m.withVram ((List.range m.hdma.len).foldl (m.hdmaWrite cfg) m.video.vram) with
      hdma := { m.hdma with len := 0, armed := false } } := by
  have hloop := hdmaLoop_withVram m cfg m.hdma.len 0 m.video.vram
  rw [← List.range_eq_range'] at hloop
  exact (if_pos h).trans (congrArg (fun m1 : Mmu => { m1 with hdma := { m1.hdma with len := 0, armed := false } }) hloop)

/-- A block that fits a bank comes to different places of it. -/
theorem hdmaTarget_ne (m : Mmu) {i j n : Nat} (hij : i < j) (hj : j < n) (hn : n ≤ 0x2000) : m.hdmaTarget i ≠ m.hdmaTarget j := by
  unfold Mmu.hdmaTarget; omega

/-- A source byte in work RAM bank 0 is that bank's, whatever VRAM holds (R201). -/
theorem read_hdmaSource {m : Mmu} (cfg : Config) (x : Memory) {i : Nat} (hlo : 0xC000 ≤ m.hdma.src.toNat)
    (hhi : m.hdma.src.toNat + i < 0xD000) :
    (m.withVram x).read cfg (m.hdma.src + BitVec.ofNat 16 i) = m.wram.read (m.hdma.src.toNat - 0xC000 + i) := by
  have hadr : (m.hdma.src + BitVec.ofNat 16 i).toNat = m.hdma.src.toNat + i := by
    rw [BitVec.toNat_add, BitVec.toNat_ofNat]; omega
  rw [Mmu.read, locate_wramFixed _ (by omega) (by omega), hadr, Nat.sub_add_comm hlo]
  rfl

/-- Settles O56: the store, the copy as a fold over its bytes, and the fold's writes at different places. -/
theorem vramDma : Obligations.VramDma := by
  unfold Obligations.VramDma
  refine ⟨fun s v hcgb hv => ?_, fun m cfg => ⟨fun h => if_neg (by rw [h]; decide), fun h => ?_⟩⟩
  · have hlen : (v.setWidth 7).toNat = v.toNat := by rw [BitVec.toNat_setWidth]; omega
    simp only [← append_toNat, ← and_0xFFF0_eq, ← and_0x1FF0_eq, ← hlen]
    simp [State.store_ioPage, Mmu.ioWrite, ioReg, hcgb, ioRegCgb, Hdma.arm]
  · intro target done
    have hdone : done = m.withVram ((List.range m.hdma.len).foldl (m.hdmaWrite cfg) m.video.vram) :=
      List.foldl_hom m.withVram (fun _ _ => rfl)
    rw [hdone]
    refine ⟨hdmaStep_of_armed h cfg, fun hlo hhi hlen => ?_⟩
    have hcopy : (List.range m.hdma.len).foldl (m.hdmaWrite cfg) m.video.vram =
        (List.range m.hdma.len).foldl
          (fun x i => x.write (m.hdmaTarget i) (m.wram.read (m.hdma.src.toNat - 0xC000 + i))) m.video.vram := by
      refine List.foldl_ext _ _ _ fun x i hi => ?_
      rw [Mmu.hdmaWrite, read_hdmaSource cfg x hlo (by have := List.mem_range.1 hi; omega)]
    rw [hcopy]
    refine ⟨fun i hi => read_writes_same _ _ ?_ (List.mem_range.2 hi), fun k hk => read_writes_other _ _ ?_⟩
    · exact List.pairwise_lt_range.imp_of_mem fun _ hj hij => hdmaTarget_ne m hij (List.mem_range.1 hj) hlen
    · exact fun i hi => hk i (List.mem_range.1 hi)

end Sys2Proof.Machine
end

section
/-! SUPPORT. The pixels of a row (60_exceptions.md R652-R658): tiles and colours (O54), the background and the window (O59), and the
sprites (O60). -/

namespace Sys2Proof.Machine

/-! ## Tiles -/

/-- A store at offset o of the VRAM window writes the bank VBK selects, and selects no other (R201). -/
theorem store_vramWindow (s : State) {o : Nat} (v : Byte) (h : o < 0x2000) :
    (s.store (0x8000 + BitVec.ofNat 16 o) v).mmu.video.vram = s.mmu.video.vram.write (s.mmu.vbank * 0x2000 + o) v ∧
      (s.store (0x8000 + BitVec.ofNat 16 o) v).mmu.vbank = s.mmu.vbank := by
  have hadr : (0x8000 + BitVec.ofNat 16 o : Word).toNat = 0x8000 + o := by
    rw [BitVec.toNat_add, BitVec.toNat_ofNat]; simp; omega
  rw [State.store, Mmu.write, if_neg (by omega), locate_vramWindow _ (by omega) (by omega), hadr, Nat.add_sub_cancel_left]
  exact ⟨rfl, rfl⟩

/-- The two bytes of a tile's row, stored through the MMU, are the row's pixels (R652). -/
theorem tilePixel_of_stores (s : State) {t r : Nat} (n : Nat) (lo hi : Byte) (ht : t < 384) (hr : r < 8) :
    ((s.store (0x8000 + BitVec.ofNat 16 (16 * t + 2 * r)) lo).store
        (0x8000 + BitVec.ofNat 16 (16 * t + 2 * r) + 1) hi).mmu.video.tilePixel s.mmu.vbank t n r =
      2 * (hi.getLsbD (7 - n)).toNat + (lo.getLsbD (7 - n)).toNat := by
  have hnext : (0x8000 + BitVec.ofNat 16 (16 * t + 2 * r) + 1 : Word) = 0x8000 + BitVec.ofNat 16 (16 * t + 2 * r + 1) := by
    rw [BitVec.ofNat_add (16 * t + 2 * r) 1, BitVec.add_assoc]; rfl
  obtain ⟨hvram, hbank⟩ := store_vramWindow s (o := 16 * t + 2 * r) lo (by omega)
  obtain ⟨hvram', -⟩ := store_vramWindow (s.store (0x8000 + BitVec.ofNat 16 (16 * t + 2 * r)) lo)
    (o := 16 * t + 2 * r + 1) hi (by omega)
  rw [hnext, Video.tilePixel, hvram', hbank, hvram]
  simp [Memory.read_write, Nat.add_assoc]

/-! ## Colours -/

theorem dmgShade_eq (palette : Byte) (ci : Nat) : dmgShade palette ci = palette.toNat / 4 ^ ci % 4 := by
  rw [dmgShade, BitVec.toNat_and, BitVec.toNat_ushiftRight, Nat.shiftRight_eq_div_pow, Nat.pow_mul]
  exact Nat.and_two_pow_sub_one_eq_mod _ 2

theorem shadeColour_eq (sh : Shades) {n : Nat} (h : n < 4) : shadeColour sh n = [sh.s0, sh.s1, sh.s2, sh.s3].getD n sh.s0 := by
  interval_cases n <;> rfl

theorem shadeColour_mem (sh : Shades) (n : Nat) : shadeColour sh n ∈ [sh.s0, sh.s1, sh.s2, sh.s3] := by
  unfold shadeColour; split_ifs <;> simp

theorem expandChannel_toNat : ∀ c : BitVec 5, (expandChannel c).toNat = 8 * c.toNat + c.toNat / 4 := by decide

/-- An RGB triple all of whose channels are expansions of 5 bits (R656). -/
theorem cgbColour_channels (ram : Memory) (p ci : Nat) :
    ∀ ch ∈ [(cgbColour ram p ci).r, (cgbColour ram p ci).g, (cgbColour ram p ci).b], ∃ c5 : Nat, c5 < 32 ∧ ch.toNat = 8 * c5 + c5 / 4 := by
  intro ch hch
  obtain ⟨c, rfl⟩ : ∃ c : BitVec 5, ch = expandChannel c := by
    simp only [cgbColour, List.mem_cons, List.not_mem_nil, or_false] at hch
    rcases hch with rfl | rfl | rfl <;> exact ⟨_, rfl⟩
  exact ⟨c.toNat, c.isLt, expandChannel_toNat c⟩

/-- A colour of a CGB palette in plain arithmetic: 15 bits, low byte first (R140, R656). -/
theorem cgbColour_toNat (ram : Memory) (p ci : Nat) :
    let w := (ram.read (8 * p + 2 * ci)).toNat + 256 * (ram.read (8 * p + 2 * ci + 1)).toNat
    (cgbColour ram p ci).r.toNat = 8 * (w % 32) + w % 32 / 4 ∧
      (cgbColour ram p ci).g.toNat = 8 * (w / 32 % 32) + w / 32 % 32 / 4 ∧
      (cgbColour ram p ci).b.toNat = 8 * (w / 1024 % 32) + w / 1024 % 32 / 4 := by
  have hword : (ram.read (8 * p + 2 * ci + 1) ++ ram.read (8 * p + 2 * ci) : BitVec 16).toNat =
      (ram.read (8 * p + 2 * ci)).toNat + 256 * (ram.read (8 * p + 2 * ci + 1)).toNat := by
    rw [append_toNat, Nat.add_comm]
  simp only [cgbColour, expandChannel_toNat, BitVec.extractLsb'_toNat, hword, Nat.shiftRight_eq_div_pow, Nat.reducePow, Nat.div_one, and_self]

/-- The palette a map entry or a sprite names: the low three bits of its byte (R655, R658). -/
theorem and_7_toNat (b : Byte) : (b &&& 7).toNat = b.toNat % 8 := by
  rw [BitVec.toNat_and]
  exact Nat.and_two_pow_sub_one_eq_mod _ 3

/-- The colour of a column with no sprite pixel: its background pixel looked up (R656). -/
theorem pixelColour_of_none {v : Video} {cgb : Bool} {col : Nat} (sh : Shades)
    (h : v.foregroundPixel cgb (v.backgroundPixel cgb col) col = none) : v.pixelColour cgb sh col =
      if cgb then cgbColour v.bgPram ((v.backgroundPixel cgb col).2 &&& 7).toNat (v.backgroundPixel cgb col).1
      else shadeColour sh (dmgShade v.bgp (v.backgroundPixel cgb col).1) := by
  unfold Video.pixelColour
  simp only [h]
  cases cgb <;> rfl

/-- The colour of a column with a sprite pixel: that pixel looked up (R656). -/
theorem pixelColour_of_some {v : Video} {cgb : Bool} {col ci : Nat} {attr : Byte} (sh : Shades)
    (h : v.foregroundPixel cgb (v.backgroundPixel cgb col) col = some (ci, attr)) : v.pixelColour cgb sh col =
      if cgb then cgbColour v.obPram (attr &&& 7).toNat ci
      else shadeColour sh (dmgShade (if attr.getLsbD 4 then v.obp1 else v.obp0) ci) := by
  unfold Video.pixelColour
  simp only [h, ← cond_eq_ite]
  cases cgb <;> rfl

/-- In DMG mode a pixel is a shade, in CGB mode a colour of a palette (R656). -/
theorem pixelColour_legal (v : Video) (cgb : Bool) (sh : Shades) (col : Nat) :
    (cgb = false → v.pixelColour cgb sh col ∈ [sh.s0, sh.s1, sh.s2, sh.s3]) ∧
      (cgb = true → ∃ ram p ci, v.pixelColour cgb sh col = cgbColour ram p ci) := by
  cases hfg : v.foregroundPixel cgb (v.backgroundPixel cgb col) col with
  | none =>
    rw [pixelColour_of_none sh hfg]
    exact ⟨fun hdmg => by rw [hdmg]; exact shadeColour_mem sh _, fun hcgb => ⟨_, _, _, if_pos hcgb⟩⟩
  | some px =>
    rw [pixelColour_of_some sh hfg]
    exact ⟨fun hdmg => by rw [hdmg]; exact shadeColour_mem sh _, fun hcgb => ⟨_, _, _, if_pos hcgb⟩⟩

/-- A palette look-up in plain arithmetic, in either mode (R656). -/
theorem lookUp_eq {cgb : Bool} {sh : Shades} {x : Rgb} {ram : Memory} {entry palette : Byte} {ci : Nat}
    (h : x = if cgb then cgbColour ram (entry &&& 7).toNat ci else shadeColour sh (dmgShade palette ci)) :
    (cgb = false → x = [sh.s0, sh.s1, sh.s2, sh.s3].getD (palette.toNat / 4 ^ ci % 4) sh.s0) ∧
      (cgb = true →
        let w := (ram.read (8 * (entry.toNat % 8) + 2 * ci)).toNat + 256 * (ram.read (8 * (entry.toNat % 8) + 2 * ci + 1)).toNat
        x.r.toNat = 8 * (w % 32) + w % 32 / 4 ∧ x.g.toNat = 8 * (w / 32 % 32) + w / 32 % 32 / 4 ∧
          x.b.toNat = 8 * (w / 1024 % 32) + w / 1024 % 32 / 4) := by
  subst h
  refine ⟨fun hdmg => ?_, fun hcgb => ?_⟩
  · rw [if_neg (by rw [hdmg]; decide), dmgShade_eq]
    exact shadeColour_eq sh (Nat.mod_lt _ (by decide))
  · rw [if_pos hcgb, and_7_toNat]
    exact cgbColour_toNat ram _ ci

/-- Every row the controller emits is a composed row (R646). -/
theorem videoStep_rows (v : Video) (cgb : Bool) (sh : Shades) (n : Nat) :
    ∀ row ly, .line row ly ∈ (v.step cgb sh n).2 → ∃ w : Video, row = w.composeRow cgb sh := by
  by_cases hon : v.lcdOn = true
  · refine videoStep_keeps (P := fun p => ∀ row ly, .line row ly ∈ p.2 → ∃ w : Video, row = w.composeRow cgb sh)
      (fun p q hq hp row ly hmem => ?_) hon (fun _ _ hmem => absurd hmem List.not_mem_nil)
    rcases List.mem_append.1 hmem with hbefore | hnew
    · exact hp row ly hbefore
    · rcases transition_cases hq with ⟨-, -, rfl⟩ | ⟨-, -, rfl⟩ | ⟨-, -, -, rfl⟩ | ⟨-, -, -, rfl⟩ | ⟨-, -, -, rfl⟩ | ⟨-, -, -, rfl⟩ <;>
        simp at hnew
      exact ⟨_, hnew.1⟩
  · unfold Video.step
    rw [if_neg hon]
    exact fun _ _ hmem => absurd hmem List.not_mem_nil

/-- Settles O54: a tile's two stores, the rows as compositions, and each column's look-up. -/
theorem tilesAndColours : Obligations.TilesAndColours := by
  unfold Obligations.TilesAndColours
  refine ⟨fun s t r n lo hi ht hr _ => tilePixel_of_stores s n lo hi ht hr, fun v cgb sh n row ly hmem => ?_,
    fun v cgb sh col hcol => ⟨v.pixelColour cgb sh col, by simp [Video.composeRow, hcol], ?_⟩⟩
  · obtain ⟨w, rfl⟩ := videoStep_rows v cgb sh n row ly hmem
    refine ⟨by simp [Video.composeRow], fun x hx => ?_⟩
    obtain ⟨col, -, rfl⟩ := List.mem_map.1 hx
    obtain ⟨hdmg, hcgb⟩ := pixelColour_legal w cgb sh col
    refine ⟨hdmg, fun h => ?_⟩
    obtain ⟨ram, p, ci, hcolour⟩ := hcgb h
    rw [hcolour]
    exact cgbColour_channels ram p ci
  · intro bg shade isColour
    cases hfg : v.foregroundPixel cgb bg col with
    | none => exact lookUp_eq (pixelColour_of_none sh hfg)
    | some px => exact lookUp_eq (pixelColour_of_some sh hfg)

/-! ## The background and the window -/

theorem mapOffset_eq (high : Bool) : mapOffset high = if high = true then 0x1C00 else 0x1800 := cond_eq_ite _ _ _

/-- The tile a map entry names, in plain arithmetic (R653). -/
theorem tileNumber_eq (v : Video) (t : Byte) : v.tileNumber t =
    if v.lcdc.getLsbD 4 = true then t.toNat else if t.toNat < 128 then 256 + t.toNat else t.toNat := by
  have hsigned : (256 + t.toInt).toNat = if t.toNat < 128 then 256 + t.toNat else t.toNat := by
    rw [BitVec.toInt_eq_toNat_cond]
    split <;> split <;> omega
  rw [Video.tileNumber, cond_eq_ite, hsigned]

/-- A map's pixel: of the tile its entry names and as the entry's CGB byte says, both VRAM's while the entry is inside
the bank (R654). -/
theorem mapPixel_eq (v : Video) (cgb : Bool) (map x y : Nat) : ∃ t attr : Byte,
    (map + 32 * (y / 8) + x / 8 < 0x2000 → t = v.vram.read (map + 32 * (y / 8) + x / 8) ∧
      (cgb = true → attr = v.vram.read (0x2000 + (map + 32 * (y / 8) + x / 8)))) ∧ (cgb = false → attr = 0) ∧
    v.mapPixel cgb map x y =
      (v.tilePixel (attr.getLsbD 3).toNat
        (if v.lcdc.getLsbD 4 = true then t.toNat else if t.toNat < 128 then 256 + t.toNat else t.toNat)
        (if attr.getLsbD 5 then 7 - x % 8 else x % 8) (if attr.getLsbD 6 then 7 - y % 8 else y % 8), attr) := by
  refine ⟨v.mapByte 0 (map + 32 * (y / 8) + x / 8) x,
    if cgb then v.mapByte 1 (map + 32 * (y / 8) + x / 8) x else 0, fun hin => ⟨?_, fun hcgb => ?_⟩, fun hdmg => ?_, ?_⟩
  · rw [mapByte_inside v hin, Nat.zero_mul, Nat.zero_add]
  · rw [if_pos hcgb, mapByte_inside v hin, Nat.one_mul]
  · rw [hdmg]; rfl
  · simp only [Video.mapPixel, tileNumber_eq, cond_eq_ite]

/-- The window's condition, as the model and as the rule write it (R654). -/
theorem window_iff (v : Video) (col : Nat) : ((v.lcdc.getLsbD 5 && v.windowStarted) = true ∧ v.wx.toNat ≤ col + 7) ↔
    (v.lcdc.getLsbD 5 = true ∧ v.windowStarted = true ∧ v.wx.toNat ≤ col + 7) := by
  rw [Bool.and_eq_true, and_assoc]

/-- Settles O59: the window's map, the background's, or neither. -/
theorem backgroundPixels : Obligations.BackgroundPixels := by
  unfold Obligations.BackgroundPixels
  refine fun v cgb col _ => ⟨fun hwindow => ?_, fun hno hon => ?_, fun hno hoff => ?_⟩
  · have hbg : v.backgroundPixel cgb col = _ := if_pos ((window_iff v col).2 hwindow)
    obtain ⟨t, attr, hentry, hdmg, hpixel⟩ := mapPixel_eq v cgb (mapOffset (v.lcdc.getLsbD 6)) (col + 7 - v.wx.toNat) v.windowLine
    rw [mapOffset_eq] at hentry
    exact ⟨t, attr, hentry, hdmg, hbg.trans hpixel⟩
  · have hbg : v.backgroundPixel cgb col = _ := (if_neg (mt (window_iff v col).1 hno)).trans (if_pos hon)
    obtain ⟨t, attr, hentry, hdmg, hpixel⟩ := mapPixel_eq v cgb (mapOffset (v.lcdc.getLsbD 3)) ((col + v.scx.toNat) % 256)
      ((v.ly.toNat + v.scy.toNat) % 256)
    rw [mapOffset_eq] at hentry
    exact ⟨t, attr, hentry, hdmg, hbg.trans hpixel⟩
  · exact (if_neg (mt (window_iff v col).1 hno)).trans (if_neg hoff)

/-! ## Sprites -/

theorem and_FE_toNat : ∀ t : Byte, (t &&& 0xFE#8).toNat = t.toNat / 2 * 2 := by decide
theorem or_01_toNat : ∀ t : Byte, (t ||| 0x01#8).toNat = t.toNat / 2 * 2 + 1 := by decide

theorem spriteRow_eq (v : Video) (k : Nat) : v.spriteRow k =
    if (v.oam.read (4 * k + 3)).getLsbD 6 then
      (if v.lcdc.getLsbD 2 = true then 15 else 7) - ((v.ly.toNat : Int) + 16 - (v.oam.read (4 * k)).toNat)
    else (v.ly.toNat : Int) + 16 - (v.oam.read (4 * k)).toNat := by
  simp only [Video.spriteRow, Video.spriteHeight, cond_eq_ite]
  split_ifs <;> rfl

/-- The colour index of a tall sprite: the row modulo 8 of the half-tile the row chooses (R655). -/
theorem spriteIndex_of_tall {v : Video} (cgb : Bool) (col k : Nat) (h : v.lcdc.getLsbD 2 = true) : v.spriteIndex cgb col k =
    v.tilePixel (if cgb then ((v.oam.read (4 * k + 3)).getLsbD 3).toNat else 0)
      (if v.spriteRow k < 8 then (v.oam.read (4 * k + 2)).toNat / 2 * 2 else (v.oam.read (4 * k + 2)).toNat / 2 * 2 + 1)
      (if (v.oam.read (4 * k + 3)).getLsbD 5 then 7 - (col + 8 - (v.oam.read (4 * k + 1)).toNat)
        else col + 8 - (v.oam.read (4 * k + 1)).toNat)
      (v.spriteRow k % 8).toNat := by
  simp only [Video.spriteIndex, h, if_true, cond_eq_ite, apply_ite BitVec.toNat, and_FE_toNat, or_01_toNat]

/-- The colour index of a low sprite on a row of its tile (R655). -/
theorem spriteIndex_of_low {v : Video} (cgb : Bool) (col k : Nat) (h : ¬ v.lcdc.getLsbD 2 = true) (hlo : 0 ≤ v.spriteRow k)
    (hhi : v.spriteRow k < 8) : v.spriteIndex cgb col k =
    v.tilePixel (if cgb then ((v.oam.read (4 * k + 3)).getLsbD 3).toNat else 0) (v.oam.read (4 * k + 2)).toNat
      (if (v.oam.read (4 * k + 3)).getLsbD 5 then 7 - (col + 8 - (v.oam.read (4 * k + 1)).toNat)
        else col + 8 - (v.oam.read (4 * k + 1)).toNat)
      (v.spriteRow k).toNat := by
  simp only [Video.spriteIndex, if_neg h, hlo, hhi, and_self, if_true, cond_eq_ite]

/-- Settles O60: the rule's row and index for each sprite, and the first sprite drawn. -/
theorem spritePixels : Obligations.SpritePixels := by
  unfold Obligations.SpritePixels
  intro v cgb bg col
  refine ⟨v.spriteIndex cgb col, fun k _ => ⟨spriteIndex_lt v cgb col k, fun htall => ?_, fun hlow hlo hhi => ?_⟩, ?_⟩
  · simp only [← spriteRow_eq]
    exact spriteIndex_of_tall cgb col k htall
  · simp only [← spriteRow_eq] at hlo hhi ⊢
    exact spriteIndex_of_low cgb col k hlow hlo hhi
  · refine ⟨fun hoff => ?_, fun hon hnone => ?_, fun hon before k after hlist hbefore hdrawn => ?_⟩
    · rw [Video.foregroundPixel, hoff]
      rfl
    · rw [Video.foregroundPixel, hon]
      exact List.findSome?_eq_none_iff.2 fun k hk => if_neg (mt and_assoc.2 (hnone k hk))
    · rw [Video.foregroundPixel, hon, hlist]
      have hhidden : ∀ j ∈ before, v.spritePixel cgb bg col j = none := fun j hj => if_neg (mt and_assoc.2 (hbefore j hj))
      have hfirst : v.spritePixel cgb bg col k = some (v.spriteIndex cgb col k, v.oam.read (4 * k + 3)) :=
        if_pos (and_assoc.1 hdrawn)
      rw [if_pos rfl, List.findSome?_append, List.findSome?_eq_none_iff.2 hhidden, List.findSome?_cons, hfirst]
      rfl

end Sys2Proof.Machine
end

section
/-! SUPPORT. The cartridge load (70_reset_and_hazards.md R802, 20_memory.md R240-R246): its checks in their order (O57), and what
a load that succeeds has made. -/

namespace Sys2Proof.Machine

/-! ## Storage arrays cut to a size -/

namespace Memory

theorem read_below_size (m : Memory) (n k : Nat) : (m.below n).read k = if k < n then m.read k else 0 := by
  induction m with
  | nil => simp [below, read, unlisted]
  | cons c t ih =>
    obtain ⟨i, v⟩ := c
    by_cases hi : i < n
    · have hkept : below ((i, v) :: t) n = (i, v) :: below t n := List.filter_cons_of_pos (decide_eq_true hi)
      rw [hkept, read, read, ih]
      split
      · next hk => rw [if_pos (hk ▸ hi)]
      · rfl
    · have hdropped : below ((i, v) :: t) n = below t n := List.filter_cons_of_neg (by simpa using hi)
      rw [hdropped, ih, read]
      split_ifs with hk hki
      · exact absurd (hki ▸ hk) hi
      · rfl
      · rfl

theorem wfFrom_below {m : Memory} (n : Nat) : ∀ {lo : Nat}, wfFrom lo m = true → wfFrom lo (m.below n) = true := by
  induction m with
  | nil => exact fun _ => rfl
  | cons c t ih =>
    intro lo hw
    obtain ⟨hhead, htail⟩ := (Bool.and_eq_true _ _).mp hw
    simp only [below, List.filter_cons]
    split
    · exact (Bool.and_eq_true _ _).mpr ⟨hhead, ih htail⟩
    · have hle : lo ≤ c.1 := of_decide_eq_true ((Bool.and_eq_true _ _).mp hhead).1
      exact wfFrom_le (Nat.le_succ_of_le hle) (ih htail)

theorem within_below (m : Memory) (n : Nat) : (m.below n).within n = true :=
  List.all_eq_true.mpr fun _ hc => (List.mem_filter.mp hc).2

theorem fits_below {m : Memory} (n : Nat) (h : m.wf = true) : (m.below n).fits n := ⟨wfFrom_below n h, within_below m n⟩

end Memory

/-! ## The header's tables -/

/-- The controller types of R241 by variant. -/
def variantTypes : List (Variant × List Nat) :=
  [(.noBank, [0x00, 0x08, 0x09]), (.variantA, [0x01, 0x02, 0x03]), (.variantB, [0x0F, 0x10, 0x11, 0x12, 0x13]),
   (.variantC, [0x19, 0x1A, 0x1B, 0x1C, 0x1D, 0x1E])]

theorem variantOf_of_mem {x : Variant} {l : List Nat} {t : Byte} (hx : (x, l) ∈ variantTypes) (ht : t.toNat ∈ l) :
    variantOf t = some x := by
  have table : ∀ e ∈ variantTypes, ∀ n ∈ e.2, variantOf (BitVec.ofNat 8 n) = some e.1 := by decide
  simpa using table (x, l) hx t.toNat ht

theorem variantOf_of_not_mem {t : Byte} (h : ∀ x l, (x, l) ∈ variantTypes → t.toNat ∉ l) : variantOf t = none := by
  have table : ∀ t : Byte, (∀ e ∈ variantTypes, t.toNat ∉ e.2) → variantOf t = none := by decide
  exact table t fun e he => h e.1 e.2 he

/-- The ROM size code (R242). -/
theorem romBanks_eq (code : Byte) : romBanks code = if code.toNat ≤ 8 then some (2 * 2 ^ code.toNat) else none := by
  rw [romBanks, Nat.shiftLeft_eq]

/-- The RAM size code (R243). -/
theorem ramBanks_eq : ∀ code : Byte, ramBanks code = if code.toNat ≤ 5 then
    some ([(0, 0), (1, 0x800), (1, 0x2000), (4, 0x2000), (16, 0x2000), (8, 0x2000)].getD code.toNat (0, 0)) else none := by
  decide

theorem ramBanksFor_banked {v : Variant} (h : v ≠ .noBank) (code : Byte) : ramBanksFor v code = ramBanks code := by
  cases v with
  | noBank => exact absurd rfl h
  | _ => rfl

/-- Banks of RAM are of 2 or 8 KiB, and no-bank has one of 8 KiB (R243). -/
theorem ramBanksFor_size {v : Variant} {code : Byte} {nRam sRam : Nat} (h : ramBanksFor v code = some (nRam, sRam)) :
    (nRam ≠ 0 → sRam = 0x800 ∨ sRam = 0x2000) ∧ (v = .noBank → nRam * sRam = 0x2000) := by
  by_cases hv : v = .noBank
  · subst hv
    cases h
    decide
  · have sizes : ∀ code : Byte, ∀ e ∈ ramBanks code, e.1 ≠ 0 → e.2 = 0x800 ∨ e.2 = 0x2000 := by decide
    rw [ramBanksFor_banked hv] at h
    exact ⟨sizes code _ h, fun hno => absurd hno hv⟩

theorem cgbFlag_eq (b : Byte) : cgbFlag b = decide (b.toNat = 0x80 ∨ b.toNat = 0xC0) := by
  revert b; decide

/-! ## The cartridge of a load -/

section Load

variable {cfg : Config} {cart save : Image} {boot : Option Memory} {ram : InitialRam} {c : Cartridge} {s : State}

theorem load_of_error {f : Fault} (h : loadCartridge cart save = .error f) : load cfg cart save boot ram = .fault f := by
  rw [load, h]

/-- The machine of a good load: R800's with a boot ROM, R801's without. -/
theorem load_of_ok (h : loadCartridge cart save = .ok c) : load cfg cart save boot ram =
    .next (boot.elim (postBoot cfg (cgbFlag (cart.bytes.read 0x143)) c ram)
      (powerOn cfg (cgbFlag (cart.bytes.read 0x143)) c · ram)) := by
  rw [load, h]
  cases boot <;> rfl

theorem load_eq_next (h : load cfg cart save boot ram = .next s) : ∃ c, loadCartridge cart save = .ok c ∧
    s = boot.elim (postBoot cfg (cgbFlag (cart.bytes.read 0x143)) c ram)
      (powerOn cfg (cgbFlag (cart.bytes.read 0x143)) c · ram) := by
  cases hc : loadCartridge cart save with
  | error f => rw [load_of_error hc] at h; cases h
  | ok c => rw [load_of_ok hc] at h; exact ⟨c, rfl, (Host.Outcome.next.inj h).symm⟩

/-- The cartridge of a load that passes its checks (R802). -/
theorem loadCartridge_eq_ok (h : loadCartridge cart save = .ok c) : ∃ v,
    romBanks (cart.bytes.read 0x148) = some c.nRom ∧ ramBanksFor v (cart.bytes.read 0x149) = some (c.nRam, c.sRam) ∧
      cart.size = c.nRom * 0x4000 ∧ c.rom = cart.bytes ∧ c.mapper = Mapper.initial v ∧
      c.ram = (save.bytes.below save.size).below (c.nRam * c.sRam) := by
  unfold loadCartridge at h
  split at h
  · cases h
  · split at h
    · cases h
    · next v _ =>
      split at h
      · cases h
      · next nRom hrom =>
        split at h
        · cases h
        · next nRam sRam hram =>
          split_ifs at h with hsize hfit
          cases h
          exact ⟨v, hrom, hram, not_not.mp hsize, rfl, rfl, rfl⟩

/-! ## The checks -/

/-- The counts a variant can address (R246). -/
def Variant.addresses (v : Variant) (nRom nRam : Nat) : Prop :=
  match v with
  | .noBank => nRom = 2
  | .variantA => nRom ≤ 128 ∧ nRam ≤ 4
  | .variantB => nRom ≤ 128 ∧ nRam ≤ 16
  | .variantC => nRom ≤ 512 ∧ nRam ≤ 16

theorem bankCountsFit_iff (v : Variant) (nRom nRam : Nat) : bankCountsFit v nRom nRam = true ↔ v.addresses nRom nRam := by
  cases v <;> simp [bankCountsFit, Variant.addresses]

/-- RAM of no-bank is one bank whatever its code; the other variants' is as their code says (R243). -/
theorem ramBanksFor_eq {v : Variant} {code : Byte} (h : v = .noBank ∨ code.toNat ≤ 5) : ramBanksFor v code =
    some (if v = .noBank then (1, 0x2000) else
      [(0, 0), (1, 0x800), (1, 0x2000), (4, 0x2000), (16, 0x2000), (8, 0x2000)].getD code.toNat (0, 0)) := by
  by_cases hv : v = .noBank
  · subst hv
    rfl
  · rw [ramBanksFor_banked hv, ramBanks_eq, if_pos (h.resolve_left hv), if_neg hv]

/-- The last two checks, of a cartridge whose header names its variant and its banks (R802). -/
theorem loadCartridge_of_header {v : Variant} {nRom : Nat} {banks : Nat × Nat} (hlong : ¬ cart.size < 0x150)
    (hv : variantOf (cart.bytes.read 0x147) = some v) (hrom : romBanks (cart.bytes.read 0x148) = some nRom)
    (hram : ramBanksFor v (cart.bytes.read 0x149) = some banks) : loadCartridge cart save =
      if cart.size ≠ nRom * 0x4000 then .error (.f8ImageLength cart.size)
      else if bankCountsFit v nRom banks.1 then
        .ok ⟨cart.bytes, (save.bytes.below save.size).below (banks.1 * banks.2), nRom, banks.1, banks.2, Mapper.initial v⟩
      else .error (.f4BankCount v nRom banks.1) := by
  rw [loadCartridge, if_neg hlong, hv]
  simp only [hrom, hram]

/-- External RAM holds the save image's bytes where it has them (R245). -/
theorem read_saved (save : Image) (n k : Nat) : ((save.bytes.below save.size).below n).read k =
    if k < save.size ∧ k < n then save.bytes.read k else 0 := by
  rw [Memory.read_below_size, Memory.read_below_size, ← ite_and]
  exact if_congr And.comm rfl rfl

@[simp] theorem initial_variant (v : Variant) : (Mapper.initial v).variant = v := by cases v <;> rfl

end Load

/-- Settles O57: the load's checks one after another. -/
theorem loadChecks : Obligations.LoadChecks := by
  unfold Obligations.LoadChecks
  intro cfg cart save boot ram byte types banks nRom result
  refine ⟨fun hshort => load_of_error (if_pos hshort), fun hsize => ?_⟩
  have hlong : ¬ cart.size < 0x150 := Nat.not_lt.mpr hsize
  refine ⟨fun hnone => load_of_error ?_, fun x l hmem htype => ?_⟩
  · rw [loadCartridge, if_neg hlong, variantOf_of_not_mem hnone]
  have hx : variantOf (cart.bytes.read 0x147) = some x := variantOf_of_mem hmem htype
  refine ⟨fun hcode => load_of_error ?_, fun hcode => ?_⟩
  · rw [loadCartridge, if_neg hlong, hx, romBanks_eq, if_neg (Nat.not_le.mpr hcode)]
  have hrom : romBanks (cart.bytes.read 0x148) = some nRom := (romBanks_eq _).trans (if_pos hcode)
  refine ⟨fun hbanked hbad => load_of_error ?_, fun hgood => ?_⟩
  · have hram : ramBanksFor x (cart.bytes.read 0x149) = none := by
      rw [ramBanksFor_banked hbanked, ramBanks_eq, if_neg (Nat.not_le.mpr hbad)]
    rw [loadCartridge, if_neg hlong, hx]
    simp only [hrom, hram]
  have hload := loadCartridge_of_header (save := save) hlong hx hrom (ramBanksFor_eq hgood)
  refine ⟨fun hlength => load_of_error (hload.trans (if_pos hlength)), fun hlength => ?_⟩
  rw [if_neg (not_not.mpr hlength)] at hload
  refine ⟨fun hfit => load_of_error (hload.trans (if_neg (mt (bankCountsFit_iff x _ _).mp hfit))), fun hfit => ?_⟩
  rw [if_pos ((bankCountsFit_iff x _ _).mpr hfit)] at hload
  refine ⟨_, load_of_ok hload, ?_⟩
  cases boot <;>
    exact ⟨rfl, rfl, rfl, rfl, initial_variant x, cgbFlag_eq _, rfl, fun k => read_saved save _ k⟩

end Sys2Proof.Machine
end

section
/-! SUPPORT. Power-on (70_reset_and_hazards.md R800, R801, 20_memory.md R258): the invariant of the reset state and of a loaded
machine (O42, O43), and the fields of a loaded machine (O58). -/

namespace Sys2Proof.Machine

/-! ## Filled storage arrays -/

namespace Memory

theorem wfFrom_fill {v : Byte} (hv : v ≠ unlisted) (n : Nat) : ∀ start : Nat, wfFrom start (fill start v n) = true := by
  induction n with
  | zero => exact fun _ => rfl
  | succ n ih => intro start; simp [fill, wfFrom, hv, ih (start + 1)]

theorem within_fill (v : Byte) (n : Nat) : ∀ start : Nat, (fill start v n).within (start + n) = true := by
  induction n with
  | zero => exact fun _ => rfl
  | succ n ih =>
    intro start
    have htail := ih (start + 1)
    rw [Nat.add_right_comm start 1 n] at htail
    simp only [within, fill, List.all_cons, Bool.and_eq_true, decide_eq_true_eq]
    exact ⟨by omega, htail⟩

theorem fits_fill {v : Byte} (hv : v ≠ unlisted) (n : Nat) : (fill 0 v n).fits n :=
  ⟨wfFrom_le (Nat.zero_le 0) (wfFrom_fill hv n 0), by simpa using within_fill v n 0⟩

theorem read_fill (v : Byte) {k : Nat} (n : Nat) : ∀ start : Nat, start ≤ k → k < start + n →
    (fill start v n).read k = v := by
  induction n with
  | zero => intro start hlo hhi; omega
  | succ n ih =>
    intro start hlo hhi
    by_cases hk : k = start
    · simp [fill, read, hk]
    · simpa [fill, read, hk] using ih (start + 1) (by omega) (by omega)

end Memory

/-! ## The invariant -/

theorem initial_inv (z : Bool) (v : Variant) : (Mapper.initial v).inv z := by
  cases v <;> simp [Mapper.initial, Mapper.inv]

/-- The cartridge of a load has its banks within the counts the header gives (R242-R245). -/
theorem loadCartridge_inv {cart save : Image} {c : Cartridge} (z : Bool) (h : loadCartridge cart save = .ok c)
    (hcart : cart.bytes.fits cart.size) (hsave : save.bytes.wf = true) : c.inv z := by
  obtain ⟨v, hrom, hram, hsize, hbytes, hmapper, hbanks⟩ := loadCartridge_eq_ok h
  obtain ⟨hbankSize, hnoBank⟩ := ramBanksFor_size hram
  refine ⟨?_, ?_, ?_, ?_, hbankSize, fun hno => hnoBank ?_⟩
  · rw [hmapper]
    exact initial_inv z v
  · rw [hbytes, ← hsize]
    exact hcart
  · rw [hbanks]
    exact Memory.fits_below _ (Memory.wfFrom_below _ hsave)
  · rw [romBanks_eq] at hrom
    split at hrom
    · rw [← Option.some.inj hrom]
      positivity
    · cases hrom
  · rw [← initial_variant v, ← hmapper, hno]
    rfl

/-- INITIAL_RAM in canonical form and within its sizes, in DMG mode within what DMG mode has (R142, R144). -/
structure InitialRam.Sized (ram : InitialRam) (cgb : Bool) : Prop where
  wram : ram.wram.fits 0x8000
  vram : ram.vram.fits 0x4000
  oam : ram.oam.fits 160
  hram : ram.hram.fits 127
  bgPram : ram.bgPram.fits 64
  obPram : ram.obPram.fits 64
  dmg : cgb = false → ram.wram.within 0x2000 = true ∧ ram.vram.within 0x2000 = true

section PowerOnStates

variable {cfg : Config} {cgb : Bool} {c : Cartridge} {ram : InitialRam}

theorem Video.placed_of_off {v : Video} (hoff : v.lcdOn = false) (hrest : v.mode = .hblank ∧ v.ly = 0 ∧ v.lineCycles = 0) :
    v.placed := by
  unfold Video.placed
  rwa [if_neg (by simp [hoff])]

theorem Video.placed_of_oamSearch {v : Video} (hon : v.lcdOn = true) (hmode : v.mode = .oamSearch)
    (hstart : v.ly.toNat < 144 ∧ v.lineCycles < 80) : v.placed := by
  unfold Video.placed
  rwa [if_pos hon, hmode]

theorem timer_reset_settled : Timer.reset.settled := fun hon => absurd hon (by decide)

theorem initialVideo_inv (hram : ram.Sized cgb) : ram.video.inv := by
  have hbit (k : Nat) : (0 : Byte).getLsbD k = false := BitVec.getLsbD_zero
  exact ⟨Video.placed_of_off (hbit 7) ⟨rfl, rfl, rfl⟩, ⟨Nat.zero_le _, .nil, nofun⟩, hbit 6, hbit 6,
    hram.vram, hram.oam, hram.bgPram, hram.obPram⟩

/-- The reset state of R800 has the invariant: every counter at zero, the LCD off. -/
theorem powerOn_inv {bootRom : Memory} (hc : c.inv cfg.mbc3ZeroIsOne) (hram : ram.Sized cgb) (hboot : bootRom.wf = true) :
    (powerOn cfg cgb c bootRom ram).Inv := by
  have hregs : Regs.zero.inv := BitVec.zero_and
  have htimer : Timer.reset.inv := ⟨by decide, by decide⟩
  have hdma : OamDma.reset.inv := ⟨Nat.zero_le _, nofun⟩
  refine ⟨hregs, ⟨hc, htimer, initialVideo_inv hram, hdma, fun hdmg => ?_, hboot, hram.wram, hram.hram, rfl, rfl⟩,
    fun _ => ⟨rfl, rfl, rfl, rfl, timer_reset_settled⟩⟩
  exact ⟨rfl, rfl, rfl, rfl, rfl, (hram.dmg hdmg).2, (hram.dmg hdmg).1⟩

theorem postBootRegs_inv (cgb : Bool) : (postBootRegs cgb).inv := by
  unfold Regs.inv
  cases cgb <;> decide

/-- With no STAT source enabled the OAM-search entry requests nothing (R644, R649). -/
theorem postBootVideo_pendingStat (cgb : Bool) {v : Video} (h : v.statEnable = 0) :
    (postBootVideo cgb v).pendingStat = v.pendingStat := by
  simp [postBootVideo, Video.enterOam, Video.checkCoincidence, Video.requestStatIf, h]

/-- The controller of R801 stands at the start of line 0's OAM search, with the sprites of that line. -/
theorem postBootVideo_inv {v : Video} (h : v.inv) (hly : v.ly = 0) (hcycles : v.lineCycles = 0) : (postBootVideo cgb v).inv := by
  obtain ⟨-, -, hbcps, hocps, hvram, hoam, hbg, hob⟩ := h
  have hpram {m : Memory} (hm : m.fits 64) : (bif cgb then Memory.fill 0 0xFF 64 else m).fits 64 := by
    cases cgb with
    | false => exact hm
    | true => exact Memory.fits_fill (by decide) 64
  have hon : BitVec.getLsbD 0x91#8 7 = true := by decide
  have hstart : v.ly.toNat < 144 ∧ v.lineCycles < 80 := by simp [hly, hcycles]
  exact ⟨Video.placed_of_oamSearch hon rfl hstart, spriteScan_listed _ _, hbcps, hocps, hvram, hoam, hpram hbg, hpram hob⟩

/-- The reset state of R801 has the invariant: R800's, but for the registers, BOOT's stored byte, IF and the controller. -/
theorem postBoot_inv (hc : c.inv cfg.mbc3ZeroIsOne) (hram : ram.Sized cgb) : (postBoot cfg cgb c ram).Inv := by
  obtain ⟨-, ⟨-, htimer, hvideo, hdma, hdmg, hboot, hwram, hhram, hio⟩, -⟩ := powerOn_inv (bootRom := []) hc hram rfl
  exact ⟨postBootRegs_inv cgb, ⟨hc, htimer, postBootVideo_inv hvideo rfl rfl, hdma, hdmg, hboot, hwram, hhram,
    Memory.fits_write 0x01 (by decide) hio⟩, fun _ => ⟨rfl, rfl, postBootVideo_pendingStat cgb rfl, rfl, timer_reset_settled⟩⟩

end PowerOnStates

/-- Settles O43, by the two power-on states. -/
theorem invariantAfterLoad : Obligations.InvariantAfterLoad := by
  unfold Obligations.InvariantAfterLoad
  intro cfg cart save boot ram s hcart hsave hboot hwram hvram hoam hhram hbg hob hdmg hload
  obtain ⟨c, hc, rfl⟩ := load_eq_next hload
  have hinv : c.inv cfg.mbc3ZeroIsOne := loadCartridge_inv _ hc hcart hsave
  have hram : ram.Sized (cgbFlag (cart.bytes.read 0x143)) := ⟨hwram, hvram, hoam, hhram, hbg, hob, hdmg⟩
  cases boot with
  | none => exact postBoot_inv hinv hram
  | some b => exact powerOn_inv hinv hram (hboot b rfl)

theorem blank_inv (z : Bool) : Cartridge.blank.inv z :=
  ⟨trivial, ⟨rfl, rfl⟩, ⟨rfl, rfl⟩, by decide, by decide, fun _ => rfl⟩

theorem zero_sized (cgb : Bool) : InitialRam.zero.Sized cgb :=
  ⟨⟨rfl, rfl⟩, ⟨rfl, rfl⟩, ⟨rfl, rfl⟩, ⟨rfl, rfl⟩, ⟨rfl, rfl⟩, ⟨rfl, rfl⟩, fun _ => ⟨rfl, rfl⟩⟩

/-- Settles O42: the reset state is R800's, of a blank cartridge and blank images. -/
theorem invariantAtReset : Obligations.InvariantAtReset :=
  powerOn_inv (cfg := Config.default) (blank_inv _) (zero_sized false) (bootRom := []) rfl

/-! ## The fields -/

theorem initial_mem (v : Variant) :
    Mapper.initial v ∈ [.noBank, .variantA false 1 0 false, .variantB false 1 0, .variantC false 1 0 0] := by
  cases v <;> decide

/-- An OAM of zeros puts every sprite above the screen (R645). -/
theorem spriteScan_of_oam_nil {v : Video} (h : v.oam = []) (ly : Nat) : v.spriteScan ly = [] := by
  have hheight : v.spriteHeight ≤ ly + 16 := by
    unfold Video.spriteHeight
    cases v.lcdc.getLsbD 2 <;> simp
  have hoff (k : Nat) : v.spriteOnLine ly k = false := by
    simpa [Video.spriteOnLine, h, Memory.read, Memory.unlisted] using hheight
  simp [Video.spriteScan, hoff]

theorem postBootRegs_eq (cgb : Bool) : postBootRegs cgb =
    if cgb then ⟨0x11, 0x80, 0x00, 0x00, 0xFF, 0x56, 0x00, 0x0D⟩ else ⟨0x01, 0xB0, 0x00, 0x13, 0x00, 0xD8, 0x01, 0x4D⟩ :=
  cond_eq_ite _ _ _

section Reads

variable (s : State)

theorem read_p1 : s.read 0xFF00 = s.mmu.joypad.p1Byte := by simp [State.read_ioPage, Mmu.ioRead, ioRegBoth]
theorem read_tac : s.read 0xFF07 = 0xF8#8 ||| s.mmu.timer.tac.setWidth 8 := by simp [State.read_ioPage, Mmu.ioRead, ioRegBoth]
theorem read_if : s.read 0xFF0F = 0xE0#8 ||| s.mmu.intFlag.setWidth 8 := by simp [State.read_ioPage, Mmu.ioRead, ioRegBoth]
theorem read_stat : s.read 0xFF41 = s.mmu.video.statByte := by simp [State.read_ioPage, Mmu.ioRead, ioRegBoth]

end Reads

/-- STAT of R801: the OAM search of line 0, which is also LYC. -/
theorem postBootVideo_statByte (cgb : Bool) {v : Video} (hly : v.ly = 0) (hlyc : v.lyc = 0) (henable : v.statEnable = 0) :
    (postBootVideo cgb v).statByte = 0x86 := by
  simp [postBootVideo, Video.enterOam, Video.checkCoincidence, Video.requestStatIf, Video.statByte, LcdMode.bits,
    hly, hlyc, henable]

/-- The palette memories of R801 in CGB mode are white. -/
theorem postBootVideo_white (v : Video) {k : Nat} (hk : k < 64) :
    (postBootVideo true v).bgPram.read k = 0xFF ∧ (postBootVideo true v).obPram.read k = 0xFF :=
  have hread : (Memory.fill 0 0xFF 64).read k = 0xFF := Memory.read_fill 0xFF 64 0 (Nat.zero_le k) (by omega)
  ⟨hread, hread⟩

/-- Settles O58: the fields of R800's state and of R801's. -/
theorem load_powerOn : Obligations.PowerOn := by
  unfold Obligations.PowerOn
  intro cfg cart save boot ram s hload
  obtain ⟨c, hc, rfl⟩ := load_eq_next hload
  obtain ⟨v, -, -, -, -, hmapper, hbanks⟩ := loadCartridge_eq_ok hc
  have hmem : c.mapper ∈ [.noBank, .variantA false 1 0 false, .variantB false 1 0, .variantC false 1 0 0] :=
    hmapper ▸ initial_mem v
  have hsaved (k : Nat) : c.ram.read k = if k < save.size ∧ k < c.nRam * c.sRam then save.bytes.read k else 0 := by
    rw [hbanks]
    exact read_saved save _ k
  generalize cgbFlag (cart.bytes.read 0x143) = cgb
  have hpending : (boot.elim (postBoot cfg cgb c ram) (powerOn cfg cgb c · ram)).mmu.video.pendingStat = false := by
    cases boot with
    | none => exact postBootVideo_pendingStat cgb rfl
    | some b => rfl
  cases boot <;> refine ⟨rfl, rfl, rfl, rfl, rfl, rfl, rfl, rfl, rfl, rfl, rfl, rfl, rfl, rfl, rfl, rfl,
    rfl, rfl, rfl, rfl, rfl, rfl, hmem, rfl, rfl, rfl, rfl, rfl, rfl, rfl, rfl, rfl, rfl, rfl, rfl, rfl, rfl, rfl,
    hpending, hsaved, ?_, ?_⟩
  · exact nofun
  · intro _
    have hif : 0xE0#8 ||| (1#5).setWidth 8 = 0xE1#8 := by decide
    refine ⟨postBootRegs_eq cgb, rfl, rfl, rfl, rfl, read_boot _, (read_if _).trans hif, rfl, rfl, rfl, rfl, rfl, rfl,
      fun hoam => spriteScan_of_oam_nil hoam 0, (read_stat _).trans (postBootVideo_statByte cgb rfl rfl rfl), fun k hk hcgb => ?_⟩
    cases (hcgb : cgb = true)
    exact postBootVideo_white _ hk
  · rintro _ ⟨⟩
    have hp1 : Joypad.reset.p1Byte = 0xCF := by decide
    have htac : 0xF8#8 ||| (0#3).setWidth 8 = 0xF8#8 := by decide
    have hstat : Video.reset.statByte = 0x80 := by decide
    exact ⟨rfl, rfl, rfl, rfl, rfl, rfl, rfl, rfl, rfl, rfl, rfl, rfl, rfl, rfl, rfl, rfl,
      (read_p1 _).trans hp1, (read_tac _).trans htac, (read_stat _).trans hstat⟩
  · exact nofun

end Sys2Proof.Machine
end
